-- ==== Sys2Proof/Word.lean ====
section
/-! DEFINITION. The word and index types of the SH8 model: bytes, tablet tags, node numbers, request
numbers, the eight bays and the four provisioning lanes (spec/00_scope.md, "Numbering"). -/

namespace Sys2Proof

/-- One byte of a frame on the cart bus (R170). -/
abbrev Byte := BitVec 8

/-- A tablet tag: the gateway's 32-bit identifier of one tablet (R1, R14). -/
abbrev Tag := BitVec 32

/-- A bus node number: 1..15; 0 stands for "all nodes" in a destination and for an inert station in the straps. -/
abbrev Node := BitVec 4

/-- A request number, 0..65535 (R184). -/
abbrev ReqNo := BitVec 16

/-- A bay; the value `i` stands for bay number `i + 1` (bays are numbered 1..8, R1). -/
abbrev Bay := Fin 8

/-- A provisioning lane; the value `i` stands for lane number `i + 1` (lanes are numbered 1..4). -/
abbrev Lane := Fin 4

/-- The printed number of a bay, 1..8. -/
def bayNumber (b : Bay) : Nat := b.val + 1

/-- The printed number of a lane, 1..4. -/
def laneNumber (x : Lane) : Nat := x.val + 1

end Sys2Proof
end

