-- ==== Sys2Proof/Syntax.lean ====
section
/-! DEFINITION. The commands the SH8 takes: one constructor per row of spec/opcode_table.json, with the
operands each event brings from outside (the raw inputs sampled at a tick, a converted code, a received
frame, a sampled strap). Rows that the table gives for a request "taken" by the request handler carry no
operand: the request they act on is the one the handler holds in State (log entry 3). -/

namespace Sys2Proof

/-- A frame as it was read from the cart bus, field by field in the order sent (R170). `end1` and `end2`
say whether the bit at each end-bit position read recessive. -/
structure RxFrame where
  cls     : BitVec 3
  key     : Byte
  src     : Node
  dst     : Node
  kind    : BitVec 4
  len     : BitVec 4
  payload : List Byte
  crc     : Byte
  end1    : Bool
  end2    : Bool
deriving DecidableEq, Repr

/-- What the part samples of its inputs at one tick of the 1 ms reference (R8, R63): the raw presence
switches (bit b set: bay b+1 closed, which reads present), the raw door sensors (bit b set: bay b+1's door
reads open), and, for each bay, for how many consecutive 8 MHz edges up to and including the tick's own edge
the short comparator has shown a current above 3800 mA. -/
structure TickInputs where
  presence : BitVec 8
  doorOpen : BitVec 8
  shortRun : Vector Nat 8
deriving DecidableEq, Repr

/-- The commands of the SH8, one per row of spec/opcode_table.json, in the table's order. -/
inductive Instr where
  | powerOnReset
  | pinReset
  /-- The straps sampled at the end of a reset (R189). -/
  | resetEnd (node : Node) (feedClass : BitVec 2)
  | tick (inputs : TickInputs)
  | uptimeSecond
  | firstTickAfterReset
  | presenceChange (bay : Bay)
  | doorChange (bay : Bay)
  | scanPassStart
  /-- The 12-bit code of the conversion that ends (R21). -/
  | conversionEnd (code : BitVec 12)
  /-- `edge` is the detection edge, counted in 8 MHz edges from the latest tick; `high` is the number of
  consecutive edges up to and including it at which the comparator was above 3800 mA (R63). -/
  | shortDetected (bay : Bay) (edge high : Nat)
  | detectTimerExpiry (bay : Bay)
  | retryDelayExpiry (bay : Bay)
  | chargeTimeExceeded (bay : Bay)
  | grantWindowExpiry (bay : Bay)
  | ajarTimerExpiry (bay : Bay)
  /-- The request whose bid-list entry's window expires (R134, R145). -/
  | bidWindowExpiry (source : Node) (request : ReqNo)
  | reportPeriodExpiry
  | peerSilent (node : Node)
  | peerLost (node : Node)
  | settleExpiry
  | jobTimeLimitExpiry (bay : Bay)
  /-- The new level of a lane's busy line as the other stations drive it (R157). -/
  | busyLineChange (lane : Lane) (busy : Bool)
  | summaryTimerExpiry
  | handlingIntervalExpiry
  | firstFrameTimerExpiry
  | closeTimerExpiry
  | lineIdle
  /-- `joined` says that the start bit was another node's, read in a bit time in which the station drove none; not written,
  the station drove its own (R174). -/
  | attemptStart (joined : Bool := false)
  | arbitrationLost
  /-- `edge` is the clock edge of the bit at which the attempt ends, counted in 8 MHz edges from the latest tick; one
  not written is the last edge before the next tick (log entry 6). -/
  | bitError (edge : Nat := 7999)
  /-- `edge` is the clock edge of the last end bit, counted in 8 MHz edges from the latest tick; one not written is the
  last edge before the next tick (log entry 6). -/
  | transmissionCompleted (edge : Nat := 7999)
  | frameDropped (frame : RxFrame)
  | framePassedOver (frame : RxFrame)
  | frameIgnored (frame : RxFrame)
  | reportReceived (frame : RxFrame)
  | bidReceived (frame : RxFrame)
  | laneClaimReceived (frame : RxFrame)
  | laneFreeReceived (frame : RxFrame)
  | requestAccepted (frame : RxFrame)
  | dispense (frame : RxFrame)
  | returnTablet (frame : RxFrame)
  | openBay
  | openAll
  | withdraw
  | provision
  | jobResult
  | tabletInfo
  | connectorCheck
  | clearFault
  | queryBay
  | queryJob
  | queryPeers
  | queryShelf
  | fetchLog
  | restart
  | settings
  | settingsClose
deriving DecidableEq, Repr

end Sys2Proof
end

