-- ==== Sys2Proof/WellFormed.lean ====
section
/-! DEFINITION. Which commands are well formed: the checks on operands that their types do not already
make. A frame carries as many payload bytes as its length field says (R170); a clock edge lies within
the tick it follows (R17); a peer is named by a node number 1..15 (R83); a request source is a node 1..15. -/

namespace Sys2Proof

/-- The payload holds as many bytes as the length field says. A length above 8 fails check 1 of R172 at the
length field, so that nothing after it is read as payload. -/
def RxFrame.wellFormed (f : RxFrame) : Bool :=
  if f.len.toNat ≤ 8 then f.payload.length == f.len.toNat else f.payload.isEmpty

/-- A node number that names one node, 1..15. -/
def Node.named (m : Node) : Bool := m != 0#4

/-- The well-formedness of a command's operands. -/
def Instr.wellFormed : Instr → Bool
  | .shortDetected _ edge _ => edge < 8000
  | .bitError edge => edge < 8000
  | .transmissionCompleted edge => edge < 8000
  | .bidWindowExpiry source _ => Node.named source
  | .peerSilent node => Node.named node
  | .peerLost node => Node.named node
  | .frameDropped f => f.wellFormed
  | .framePassedOver f => f.wellFormed
  | .frameIgnored f => f.wellFormed
  | .reportReceived f => f.wellFormed
  | .bidReceived f => f.wellFormed
  | .laneClaimReceived f => f.wellFormed
  | .laneFreeReceived f => f.wellFormed
  | .requestAccepted f => f.wellFormed
  | .dispense f => f.wellFormed
  | .returnTablet f => f.wellFormed
  | .powerOnReset | .pinReset | .uptimeSecond | .firstTickAfterReset
  | .scanPassStart | .reportPeriodExpiry | .settleExpiry | .summaryTimerExpiry
  | .handlingIntervalExpiry | .firstFrameTimerExpiry | .closeTimerExpiry | .lineIdle
  | .attemptStart _ | .arbitrationLost
  | .openBay | .openAll | .withdraw | .provision
  | .jobResult | .tabletInfo | .connectorCheck | .clearFault
  | .queryBay | .queryJob | .queryPeers | .queryShelf
  | .fetchLog | .restart | .settings | .settingsClose
  | .tick _ | .presenceChange _ | .doorChange _ | .conversionEnd _
  | .detectTimerExpiry _ | .retryDelayExpiry _ | .chargeTimeExceeded _ | .grantWindowExpiry _
  | .ajarTimerExpiry _ | .jobTimeLimitExpiry _ | .resetEnd _ _ | .busyLineChange _ _ => true

end Sys2Proof
end

