-- ==== Sys2Proof/Decode.lean ====
section
/-! DEFINITION. The decoder over spec/opcode_table.json. The table is a table of events: no row of it gives
any bits (every row's "fields" list is empty and none has a "fixed" pattern), so no word spells a command.
The bit layouts the spec does give are those of the cart bus frames; they are in Machine/Operands.lean. -/

namespace Sys2Proof

/-- The command a word of `nbits` bits spells by the table: none, since no row of the table has bits. -/
def decodeTableWord (_nbits _w : Nat) : Option Instr := none

end Sys2Proof
end

