-- ==== Sys2Proof/Config.lean ====
section
/-! DEFINITION. The values the SH8's manual leaves open, as opaque constants: nothing can be proved of any of
them, so whatever is proved of the model holds for every value of theirs (log entries 4 and 5). Each is
applied to the counter `State.freeCount`, which rises at every use. -/

namespace Sys2Proof.Config

/-- The request number the part reads from a REQUEST whose payload is shorter than the two bytes of a request
number. R180, R183 and R184 answer and refuse such a request "with its request number"; no rule says what that
number is. -/
opaque freeRequestNumber : Nat → ReqNo

/-- What the arrival counter of R150 holds after it has given out 4,294,967,295, the last value of its range:
no rule says whether it wraps or saturates. -/
opaque arrivalAfterLast : Nat → BitVec 32

end Sys2Proof.Config
end

