-- ==== Sys2Proof/Machine/Settings.lean ====
section
/-! DEFINITION. The settings image: its 85 items with their ranges and defaults (R191), the clamping of a
value sent (R7, R184), the tablet profiles read from it (R6), and the two replacements made when the blocks
take the image (R61, R81). -/

namespace Sys2Proof.Machine

/-- The settings image: the value of item `i + 1` at index `i` (R191). -/
abbrev Image := Vector Nat 85

/-- The range and the default of one settings item. -/
structure Item where
  low     : Nat
  high    : Nat
  default : Nat
deriving DecidableEq, Repr

/-- The nine fields of one tablet profile, in the order of the profile table (R6). The first, the bay
voltage, takes one of four values and is clamped by `nearestVoltage`. -/
def profileItems : List Item :=
  [⟨5000, 15000, 9000⟩, ⟨5, 45, 27⟩, ⟨0, 10, 2⟩, ⟨0, 20, 8⟩, ⟨100, 1500, 300⟩,
   ⟨50, 100, 85⟩, ⟨50, 500, 150⟩, ⟨30, 600, 240⟩, ⟨0, 100, 30⟩]

/-- Items 53..60: scan period, urgent threshold, short blank time, short filter time, retry delay,
quarantine limit, connector limit, check at docking. -/
def protectionItems : List Item :=
  [⟨5, 50, 10⟩, ⟨0, 100, 20⟩, ⟨5, 80, 20⟩, ⟨50, 400, 100⟩, ⟨1, 60, 5⟩, ⟨2, 15, 8⟩, ⟨50, 1000, 250⟩, ⟨0, 1, 1⟩]

/-- Items 61..66: the policies of SHORT, OVERLOAD, OVERVOLT, BACKFEED, NO_TAPER and CONNECTOR. -/
def policyItems : List Item :=
  [⟨0, 3, 2⟩, ⟨0, 3, 2⟩, ⟨0, 3, 1⟩, ⟨0, 3, 1⟩, ⟨0, 3, 1⟩, ⟨0, 3, 0⟩]

/-- Items 67..74: report period, silence time, hold time, orphan allowance, reserve, ramp step, derate start,
cutoff. -/
def shareItems : List Item :=
  [⟨100, 1000, 250⟩, ⟨300, 5000, 1000⟩, ⟨1, 60, 10⟩, ⟨0, 200, 60⟩, ⟨0, 200, 30⟩, ⟨4, 100, 24⟩,
   ⟨30, 90, 45⟩, ⟨31, 100, 60⟩]

/-- Items 75..85: grant window, ajar time, the nodes and then the levels of the four authority entries, bid
window. -/
def custodyItems : List Item :=
  [⟨5, 60, 15⟩, ⟨10, 600, 60⟩] ++ List.replicate 4 ⟨0, 15, 0⟩ ++ List.replicate 4 ⟨0, 3, 0⟩ ++ [⟨50, 1000, 200⟩]

/-- The 85 items of the settings image in item order (R191). -/
def items : List Item :=
  List.replicate 8 ⟨0, 1, 1⟩ ++ List.replicate 8 ⟨1, 4, 1⟩ ++
  (profileItems ++ profileItems ++ profileItems ++ profileItems) ++
  protectionItems ++ policyItems ++ shareItems ++ custodyItems

/-- The image of defaults, which every power-on and pin reset leaves (R189, R191). -/
def defaultImage : Image := ⟨⟨items.map Item.default⟩, rfl⟩

/-- The value an image holds for item number `n` (1..85). -/
def itemOf (img : Image) (n : Nat) : Nat := img.toArray.toList.getD (n - 1) 0

/-- Whether item number `n` is the bay voltage of a profile: items 17, 26, 35 and 44. -/
def isVoltageItem (n : Nat) : Bool := 17 ≤ n && n ≤ 52 && (n - 17) % 9 == 0

/-- R7: the nearest of the four bay voltages, the lower one where two are equally near. -/
def nearestVoltage (v : Nat) : Nat :=
  if v ≤ 7000 then 5000 else if v ≤ 10500 then 9000 else if v ≤ 13500 then 12000 else 15000

/-- A value clamped to a range: the nearest of its ends where it lies outside. -/
def clamp (low high v : Nat) : Nat := max low (min high v)

/-- R191, R184: the value an item takes from a value sent. -/
def clampItem (n v : Nat) : Nat :=
  if isVoltageItem n then nearestVoltage v
  else
    let it := items.getD (n - 1) ⟨0, 0, 0⟩
    clamp it.low it.high v

/-- R191: the image with the value sent for item `n` (1..85), clamped. -/
def writeItem (img : Image) (n v : Nat) : Image :=
  ⟨⟨img.toArray.toList.set (n - 1) (clampItem n v)⟩, by simp⟩

/-- The fields of a tablet profile (R6). -/
structure Profile where
  voltage         : Nat
  maxPower        : Nat
  maintainPower   : Nat
  awakePower      : Nat
  capacity        : Nat
  efficiency      : Nat
  fullCurrent     : Nat
  maxChargeTime   : Nat
  provisioningMin : Nat
deriving DecidableEq, Repr

/-- R191: profile `p` (the value 0 stands for profile 1) occupies items 17 + 9 × (profile − 1) + (field − 1). -/
def profileOf (img : Image) (p : Fin 4) : Profile :=
  let at_ (field : Nat) := itemOf img (17 + 9 * p.val + (field - 1))
  { voltage := at_ 1, maxPower := at_ 2, maintainPower := at_ 3, awakePower := at_ 4, capacity := at_ 5,
    efficiency := at_ 6, fullCurrent := at_ 7, maxChargeTime := at_ 8, provisioningMin := at_ 9 }

/-- Item `n`, populated of bay `n` (R5). -/
def populatedOf (img : Image) (b : Bay) : Bool := itemOf img (b.val + 1) == 1

/-- Items 9..16, the profile of each bay, 1..4 (R6). -/
def bayProfileOf (img : Image) (b : Bay) : Fin 4 := Fin.ofNat 4 (itemOf img (b.val + 9) - 1)

/-- Scan period in ms (R20). -/
def scanPeriodOf (img : Image) : Nat := itemOf img 53
/-- Urgent threshold in percent (R49). -/
def urgentThresholdOf (img : Image) : Nat := itemOf img 54
/-- Short blank time in edges of the 8 MHz clock: 800 edges to a tenth of a millisecond (R60). -/
def blankEdgesOf (img : Image) : Nat := itemOf img 55 * 800
/-- Short filter time in edges: 8 edges to a microsecond (R60). -/
def filterEdgesOf (img : Image) : Nat := itemOf img 56 * 8
/-- Retry delay in ms (R60, R71). -/
def retryDelayOf (img : Image) : Nat := itemOf img 57 * 1000
/-- Quarantine limit (R60, R70). -/
def quarantineLimitOf (img : Image) : Nat := itemOf img 58
/-- Connector limit in mΩ (R60, R68). -/
def connectorLimitOf (img : Image) : Nat := itemOf img 59
/-- Check at docking (R60, R67). -/
def checkAtDockingOf (img : Image) : Bool := itemOf img 60 == 1
/-- Report period in ms (R81). -/
def reportPeriodOf (img : Image) : Nat := itemOf img 67
/-- Silence time in ms (R81). -/
def silenceTimeOf (img : Image) : Nat := itemOf img 68
/-- Hold time in ms (R81: the item is in seconds). -/
def holdTimeOf (img : Image) : Nat := itemOf img 69 * 1000
/-- Orphan allowance Q in W (R81). -/
def orphanOf (img : Image) : Nat := itemOf img 70
/-- Reserve in W (R81). -/
def reserveOf (img : Image) : Nat := itemOf img 71
/-- Ramp step in W (R81). -/
def rampStepOf (img : Image) : Nat := itemOf img 72
/-- Derate start in °C (R81). -/
def derateStartOf (img : Image) : Nat := itemOf img 73
/-- Cutoff in °C as the share engine takes it: one above the derate start where the item is not above it (R81). -/
def cutoffOf (img : Image) : Nat :=
  if itemOf img 74 ≤ derateStartOf img then derateStartOf img + 1 else itemOf img 74
/-- Grant window in ms (R108: the item is in seconds). -/
def grantWindowOf (img : Image) : Nat := itemOf img 75 * 1000
/-- Ajar time in ms (R108: the item is in seconds). -/
def ajarTimeOf (img : Image) : Nat := itemOf img 76 * 1000
/-- Bid window in ms (R135). -/
def bidWindowOf (img : Image) : Nat := itemOf img 85

/-- R82: the budget of a feed class, in W. -/
def classBudget (c : BitVec 2) : Nat := 480 + 240 * c.toNat

end Sys2Proof.Machine
end

