-- ==== Sys2Proof/Machine/State.lean ====
section
/-! DEFINITION. The state of one SH8 as plain data: every record, collection, counter, timer, mark and output
the manual names, the inputs as last sampled, and the queue of the commands that wait. INVENTORY.md lists each
with the rule that names it and its reset value. A running timer is `some n` with `n` the ticks left to its
expiry, `some 0` an expiry that is due; a stopped one is `none` (R18, log entry 2). -/

namespace Sys2Proof.Machine

/-! ### Small vocabularies -/

/-- The start-up state (R189, R190, R194): a reset that lasts, INERT, CONFIG and RUN. -/
inductive Phase where
  | resetting | inert | config | run
deriving DecidableEq, Repr

/-- The eleven charge states (R33). -/
inductive ChargeState where
  | disabled | empty | detect | softstart | bulk | taper | maintain | paused | retryWait | faulted | quarantined
deriving DecidableEq, Repr

/-- The five lock states (R107). -/
inductive LockState where
  | secured | granted | opened | ajar | forced
deriving DecidableEq, Repr

/-- The reason of a grant (R107). -/
inductive GrantReason where
  | dispense | returnTablet | openBay | openAll
deriving DecidableEq, Repr

/-- The six fault classes (R61). -/
inductive FaultClass where
  | short | overload | overvolt | backfeed | noTaper | connector
deriving DecidableEq, Repr

/-- The four fault policies (R61). -/
inductive Policy where
  | warn | stop | retry | latch
deriving DecidableEq, Repr

/-- The levels of the authority table (R122). -/
inductive Authority where
  | panel | teacher | service | gateway
deriving DecidableEq, Repr

/-- The kinds of a provisioning job (R150). -/
inductive JobKind where
  | identify | image | update | wipe
deriving DecidableEq, Repr

/-- The states of a job (R150). -/
inductive JobState where
  | queued | waitLevel | waitLane | claiming | connected | suspended | ended
deriving DecidableEq, Repr

/-- The outcomes of an ended job (R150). -/
inductive JobOutcome where
  | done | failed | aborted | expired
deriving DecidableEq, Repr

/-- The kinds of a release log record, in the order that numbers them from 1 (R128, R173). -/
inductive RecordKind where
  | dispensed | returned | opened | lapsed | forced | withdrawn | refused | openAtStart | anomaly
deriving DecidableEq, Repr

/-- The kinds of a REQUEST frame, in the order that numbers them from 1 (R171). -/
inductive RequestKind where
  | openBay | openAll | dispense | returnTablet | withdraw | provision | jobResult | tabletInfo
  | connectorCheck | clearFault | query | fetchLog | restart | settings | settingsClose
deriving DecidableEq, Repr

/-- The refusal reasons of an ANSWER REFUSED (R184). -/
inductive Reason where
  | notAuthorized | noBay | bayState | busyJob | noJob | badArg | closed | notRunning | signature
deriving DecidableEq, Repr

/-- The targets of a QUERY, in the order that numbers them from 1 (R184). -/
inductive QueryTarget where
  | bay | job | peers | shelf
deriving DecidableEq, Repr

/-- The kind of a bid (R134). -/
inductive BidKind where
  | dispense | returnTablet
deriving DecidableEq, Repr

/-- The states of a peer table entry (R83). -/
inductive PeerState where
  | absent | live | silent | lost
deriving DecidableEq, Repr

/-- Where the bus interface stands on the line between commands (R169, R174): counting the recessive bits of
the inter-frame gap; on an idle line; in an attempt of its own; reading on, as a receiver, the frame that beat
its own in arbitration. -/
inductive Line where
  | gap | idle | attempt | receiving
deriving DecidableEq, Repr

/-- The first tick after a reset (R9, R109): not yet come; come, with the first values still to be taken;
done. -/
inductive FirstTick where
  | awaited | due | taken
deriving DecidableEq, Repr

/-- A timer: stopped, or the ticks left to its expiry (R18). -/
abbrev Timer := Option Nat

/-! ### The bay record and the per-bay items of the units -/

/-- One debouncer: its debounced value (present, or open) and its count (R8). -/
structure Debouncer where
  value : Bool
  count : Nat
deriving DecidableEq, Repr

/-- The charge controller's fields of a bay record and its own items for the bay (R1, R33 to R46). `allotted`
is the allotted limit of R33; `exceeded` is set once the charge-time-exceeded event of the present charging
period has been handed on (R46); the runs hold their start ticks (R39, R40). -/
structure Charge where
  state         : ChargeState
  level         : Option Nat
  acc           : Nat
  limit         : Nat
  keep          : Nat
  urgent        : Nat
  normal        : Nat
  allotted      : Nat
  time          : Nat
  exceeded      : Bool
  tag           : Option Tag
  departed      : Option Tag
  provisioned   : Bool
  detectTimer   : Timer
  lowCount      : Nat
  returnCount   : Nat
  fullRun       : Option Nat
  highRun       : Option Nat
deriving DecidableEq, Repr

/-- The outputs of one bay channel (R11). -/
structure Outputs where
  stageEnable   : Bool
  stageLimit    : Nat
  voltageSelect : Nat
  latch         : Bool
  crosspoint    : Option Lane
deriving DecidableEq, Repr

/-- A grant (R107). -/
structure Grant where
  reason    : GrantReason
  requester : Node
  request   : ReqNo
deriving DecidableEq, Repr

/-- The removal note: the tag and level that the latest removal of this opening carried (R107). -/
structure RemovalNote where
  tag   : Option Tag
  level : Option Nat
deriving DecidableEq, Repr

/-- The custody unit's items for a bay (R107). -/
structure Lock where
  state    : LockState
  grant    : Option Grant
  baseline : Option Bool
  window   : Timer
  ajar     : Timer
  note     : Option RemovalNote
deriving DecidableEq, Repr

/-- The last-fault record: class, uptime seconds, measured value (R69). -/
structure LastFault where
  cls    : FaultClass
  uptime : Nat
  value  : Int
deriving DecidableEq, Repr

/-- The protection unit's fields of a bay record, the held quarantine of R2 and the detector state of R62.
`held` is the held quarantine; `blankEnd` counts clock edges since the reset. -/
structure Protection where
  score        : Nat
  retryCount   : Nat
  latched      : Bool
  held         : Bool
  lastFault    : Option LastFault
  mark         : Bool
  result       : Option Nat
  filterCount  : Nat
  blankEnd     : Option Nat
  overload     : Nat
  overvolt     : Nat
  backfeed     : Nat
  retryTimer   : Timer
deriving DecidableEq, Repr

/-- One job, as a slot of the job table holds it (R150). -/
structure Job where
  id          : BitVec 16
  kind        : JobKind
  requester   : Node
  timeLimit   : Nat
  elapsed     : Nat
  state       : JobState
  lane        : Option Lane
  suspensions : Nat
  arrival     : Nat
  outcome     : Option JobOutcome
  unread      : Bool
deriving DecidableEq, Repr

/-- A bid reservation: the request it is held for (R1, R134). -/
structure Reservation where
  source  : Node
  request : ReqNo
deriving DecidableEq, Repr

/-- One bay: its record (R1) and the items the units keep beside it. `slot` is the bay's slot of the job
table, which the record's job field refers to (R150); `measure` is a pending connector measurement's start
tick (R29); `notedLimit` is the stage current limit noted at the end of the bay's current conversion (R64). -/
structure BayRecord where
  populated   : Bool
  profile     : Fin 4
  presence    : Debouncer
  door        : Debouncer
  charge      : Charge
  out         : Outputs
  lock        : Lock
  prot        : Protection
  slot        : Option Job
  reservation : Option Reservation
  filtered    : Nat
  measure     : Option Nat
  notedLimit  : Nat
deriving DecidableEq, Repr

/-! ### The station's blocks -/

/-- The pacing timers (R17, R19) and the tick count the rules of the other blocks read their start and pass
ticks from. `prescaler` is the count at the latest command whose clock edge the manual fixes (log entry 6). -/
structure Pacing where
  ticks     : Nat
  prescaler : Nat
  subTicks  : Nat
  uptime    : Nat
  firstTick : FirstTick
deriving DecidableEq, Repr

/-- A scan pass in progress: its pass tick, the channel (0..18) whose conversion ends next, and the scan
period in force for the pass (R20, R21, R25). -/
structure Pass where
  tick   : Nat
  next   : Fin 19
  period : Nat
deriving DecidableEq, Repr

/-- The measurement scanner (R20, R24). -/
structure Scanner where
  divider : Nat
  pass    : Option Pass
  results : Vector (Option (BitVec 12)) 19
deriving DecidableEq, Repr

/-- One entry of the peer table (R83). `due` says that the comparison of R86 at the latest tick found the
entry at or above its threshold. -/
structure Peer where
  state     : PeerState
  keep      : Nat
  urgent    : Nat
  urgentN   : Nat
  normal    : Nat
  normalN   : Nat
  ceiling   : Nat
  droop     : Bool
  feedClass : BitVec 2
  lastSeq   : Nat
  missed    : Nat
  age       : Nat
  due       : Bool
deriving DecidableEq, Repr

/-- The share engine (R105). `peers` holds node `i + 1` at index `i`; `budget` is B, `lastY` the last Y,
`xt` the last transmitted ceiling, `applied` the applied ceiling C, `seq` the sequence number the next
completed REPORT counts from and `sentSeq` the one the last transmitted REPORT carried (R84). -/
structure Share where
  peers       : Vector Peer 15
  budget      : Nat
  shareSelf   : Nat
  lastY       : Nat
  xt          : Nat
  applied     : Nat
  seq         : Nat
  sentSeq     : Nat
  thermal     : Nat
  temps       : Option (Int × Int)
  droopFactor : Nat
  droop       : Bool
  warnRun     : Nat
  tripRun     : Nat
  reportTimer : Timer
deriving DecidableEq, Repr

/-- One release log record (R128). `bay` is 1..8, or 0 for a record that concerns no single bay. -/
structure LogRecord where
  number    : Nat
  uptime    : Nat
  bay       : Nat
  kind      : RecordKind
  requester : Option Node
  request   : Option ReqNo
  tag       : Option Tag
  level     : Option Nat
deriving DecidableEq, Repr

/-- The custody unit's items that are held once for the station: the release log, oldest first, its next
record number and overflow count (R128), and the open-all confirmation (R125). -/
structure Custody where
  log        : List LogRecord
  nextNumber : Nat
  overflow   : Nat
  allSource  : Option Node
  allCount   : Nat
deriving DecidableEq, Repr

/-- One entry of the bid list (R134). `sending` is the status SENDING; `minLevel` is the DISPENSE's minimum
level in whole percent, which R142 judges again; `withdrawal` says that a withdrawal waits for the end of
the attempt (R144). -/
structure BidEntry where
  source     : Node
  request    : ReqNo
  kind       : BidKind
  bay        : Bay
  score      : Nat
  window     : Timer
  sending    : Bool
  void       : Bool
  minLevel   : Nat
  withdrawal : Bool
deriving DecidableEq, Repr

/-- The holder of a lane: node, the bay a LANE CLAIM named, and the uptime it has held since (R154). -/
structure Holder where
  node  : Node
  bay   : Option Nat
  since : Nat
deriving DecidableEq, Repr

/-- The phases of the claim in flight; SETTLING holds its running settle timer (R156, R158). -/
inductive ClaimPhase where
  | awaitingPower
  | awaitingLane
  | claimQueued (lane : Lane)
  | settling (lane : Lane) (left : Nat)
deriving DecidableEq, Repr

/-- The claim in flight (R156). -/
structure Claim where
  bay   : Bay
  phase : ClaimPhase
deriving DecidableEq, Repr

/-- The lane unit: lane table, busy-line drives, claim in flight, arrival counter (R150, R154 to R156). -/
structure Lanes where
  table    : Vector (Option Holder) 4
  drive    : Vector Bool 4
  claim    : Option Claim
  arrivals : Nat
deriving DecidableEq, Repr

/-! ### Frames the part sends -/

/-- What the STATUS frames of a QUERY BAY report (R185). -/
structure BayReport where
  bay         : Nat
  populated   : Bool
  profile     : Nat
  presence    : Bool
  doorOpen    : Bool
  charge      : ChargeState
  level       : Option Nat
  limit       : Nat
  keep        : Nat
  urgent      : Nat
  normal      : Nat
  filtered    : Nat
  chargeTime  : Nat
  current     : Option Int
  voltage     : Option Nat
  tag         : Option Tag
  departed    : Option Tag
  provisioned : Bool
  lock        : LockState
  grant       : Option Grant
  windowLeft  : Option Nat
  baseline    : Option Bool
  job         : Option JobState
  reservation : Option Reservation
  score       : Nat
  retryCount  : Nat
  latched     : Bool
  lastFault   : Option LastFault
  mark        : Bool
  result      : Option Nat
deriving DecidableEq, Repr

/-- What the STATUS frames of a QUERY JOB report of a slot that holds a job; `elapsed` is in whole seconds
(R168). -/
structure JobReport where
  id          : BitVec 16
  kind        : JobKind
  requester   : Node
  timeLimit   : Nat
  elapsed     : Nat
  state       : JobState
  lane        : Option Lane
  suspensions : Nat
  outcome     : Option JobOutcome
  unread      : Bool
deriving DecidableEq, Repr

/-- What one STATUS frame of a QUERY PEERS reports (R185). -/
structure PeerReport where
  node    : Nat
  state   : PeerState
  ceiling : Nat
  missed  : Nat
deriving DecidableEq, Repr

/-- What the STATUS frames of a QUERY SHELF report (R185), and in CONFIG the settings image, which R192 has a QUERY read
back (log entry 36). -/
structure ShelfReport where
  node        : Node
  feedClass   : BitVec 2
  phase       : Phase
  uptime      : Nat
  defaulted   : Bool
  rail        : Option Nat
  tempA       : Option Int
  tempB       : Option Int
  budget      : Nat
  applied     : Nat
  xt          : Nat
  thermal     : Nat
  droopFactor : Nat
  droop       : Bool
  shareSelf   : Nat
  policies    : List Policy
  bids        : Nat
  lanes       : Vector (Option Holder) 4
  claim       : Option ClaimPhase
  rxErrors    : Nat
  errorRun    : Nat
  requests    : Nat
  transmits   : Nat
  holding     : Bool
  logCount    : Nat
  overflow    : Nat
  attention   : Nat
  image       : Option Image
deriving DecidableEq, Repr

/-- What a STATUS part belongs to: the report its QUERY took (log entry 7). -/
inductive Report where
  | bay (r : BayReport)
  | job (bay : Nat) (r : Option JobReport)
  | peer (r : Option PeerReport)
  | shelf (r : ShelfReport)
deriving DecidableEq, Repr

/-- The ANSWER frames (R184). -/
inductive Answer where
  | accepted (kind : RequestKind) (request : ReqNo)
  | refused (kind : RequestKind) (request : ReqNo) (reason : Reason)
  | status (request : ReqNo) (target : QueryTarget) (part count : Nat) (report : Report)
  | jobConnected (id : BitVec 16) (bay : Bay) (lane : Lane)
  | grantVoid (request : ReqNo) (bay : Bay)
  | full (kind : RequestKind) (request : ReqNo)
deriving DecidableEq, Repr

/-- A REPORT of this station (R102), with its pending raise (R95, R96). -/
structure OwnReport where
  keep      : Nat
  urgent    : Nat
  urgentN   : Nat
  normal    : Nat
  normalN   : Nat
  ceiling   : Nat
  lanes     : Vector Bool 4
  droop     : Bool
  feedClass : BitVec 2
  seq       : Nat
  raise     : Option Nat
deriving DecidableEq, Repr

/-- A BID of this station (R141). -/
structure OwnBid where
  kind     : BidKind
  source   : Node
  request  : ReqNo
  bay      : Bay
  score    : Nat
  level    : Option Nat
  tagMatch : Bool
deriving DecidableEq, Repr

/-- A SUMMARY of this station (R187). -/
structure Summary where
  present   : Nat
  charging  : Nat
  maintain  : Nat
  applied   : Nat
  attention : Nat
  logCount  : Nat
  overflow  : Nat
  rxErrors  : Nat
  requests  : Nat
  defaulted : Bool
deriving DecidableEq, Repr

/-- The frames the part sends (R171). A LANE FREE carries no bay. -/
inductive TxFrame where
  | hold (count : Nat)
  | resume (count : Nat)
  | bid (b : OwnBid)
  | claim (lane : Lane) (bay : Bay)
  | free (lane : Lane)
  | answer (dst : Node) (a : Answer)
  | report (r : OwnReport)
  | summary (f : Summary)
  | logPart1 (dst : Node) (r : LogRecord)
  | logPart2 (dst : Node) (r : LogRecord)
  | logEmpty (dst : Node) (nextNumber overflow : Nat)
deriving DecidableEq, Repr

/-- A frame in the transmit queue. `sending` says that an attempt of it is in progress (R176); `doomed` that
a withdrawal of this LANE CLAIM, asked for during the attempt, waits for its end (R157, R159). -/
structure TxEntry where
  frame   : TxFrame
  sending : Bool
  doomed  : Bool
deriving DecidableEq, Repr

/-- An entry of the request queue: one accepted REQUEST frame (R180), with the request number read from its
first two payload bytes at its acceptance. -/
structure Request where
  src     : Node
  dst     : Node
  kind    : RequestKind
  key     : Byte
  payload : List Byte
  number  : ReqNo
deriving DecidableEq, Repr

/-- The bus interface (R182), where it stands on the line, and its count of consecutive recessive bit times (R169): 12 on
an idle line; 0 where the count has started again and while a frame is in progress; the bit times between are not
commands (log entry 21). `joined` says that the attempt in progress took another node's start bit as its own (R174). -/
structure Bus where
  txq       : List TxEntry
  reqq      : List Request
  holding   : Bool
  holdCount : Nat
  rxErrors  : Nat
  errorRun  : Nat
  muted     : Bool
  line      : Line
  recessive : Nat
  joined    : Bool
deriving DecidableEq, Repr

/-- The request handler (R183, R187): its handling interval (stopped: idle), the request it has taken and not
yet acted on, and the summary timer. -/
structure Handler where
  interval : Timer
  taken    : Option Request
  summary  : Timer
deriving DecidableEq, Repr

/-- Start-up and settings (R189, R191, R193). -/
structure Startup where
  phase      : Phase
  node       : Node
  feedClass  : BitVec 2
  image      : Image
  firstFrame : Timer
  close      : Timer
  defaulted  : Bool
deriving DecidableEq, Repr

/-- The inputs as the part last saw them: the raw presence and door inputs of the latest tick, and the busy
lines as the other stations drive them. -/
structure Inputs where
  presence : BitVec 8
  doorOpen : BitVec 8
  busy     : Vector Bool 4
deriving DecidableEq, Repr

/-- The state of one SH8. `freeCount` is the model's own: the counter its free values are applied to (log
entries 4 and 5); `pending` holds the commands that wait, oldest first. -/
structure State where
  bays      : Vector BayRecord 8
  pacing    : Pacing
  scanner   : Scanner
  share     : Share
  custody   : Custody
  bids      : List BidEntry
  lanes     : Lanes
  bus       : Bus
  handler   : Handler
  startup   : Startup
  inputs    : Inputs
  freeCount : Nat
  pending   : List Instr
deriving DecidableEq, Repr

/-! ### Why a step may stop -/

/-- No command of the SH8 stops the part with a fault: the manual gives every event an effect on the part's
state, an event that cannot occur in a state leaves it as it is (log entry 1), and the part has no memory
to miss. -/
inductive Fault where
deriving DecidableEq, Repr

/-- Why a command is not run. -/
inductive Refusal where
  /-- Raised by `exec` alone, for a command that has no meaning yet: none is left. Safe: nothing is claimed of
  a command that is refused. -/
  | notModelled (mnemonic : String)
deriving DecidableEq, Repr

/-! ### Reset -/

namespace BayRecord

/-- The bay record after a power-on reset (R2, R11, R62, R119). -/
def reset : BayRecord :=
  { populated := true, profile := 0,
    presence := { value := false, count := 0 }, door := { value := false, count := 0 },
    charge :=
      { state := .disabled, level := none, acc := 0, limit := 0, keep := 0, urgent := 0, normal := 0, allotted := 0,
        time := 0, exceeded := false, tag := none, departed := none, provisioned := false, detectTimer := none,
        lowCount := 0, returnCount := 0, fullRun := none, highRun := none },
    out := { stageEnable := false, stageLimit := 0, voltageSelect := 5000, latch := false, crosspoint := none },
    lock := { state := .secured, grant := none, baseline := none, window := none, ajar := none, note := none },
    prot :=
      { score := 0, retryCount := 0, latched := false, held := false, lastFault := none, mark := false,
        result := none, filterCount := 0, blankEnd := none, overload := 0, overvolt := 0, backfeed := 0,
        retryTimer := none },
    slot := none, reservation := none, filtered := 0, measure := none, notedLimit := 0 }

end BayRecord

/-- A peer table entry after a reset: ABSENT, 0 in every number, droop flag clear (R83). -/
def Peer.reset : Peer :=
  { state := .absent, keep := 0, urgent := 0, urgentN := 0, normal := 0, normalN := 0, ceiling := 0, droop := false,
    feedClass := 0, lastSeq := 0, missed := 0, age := 0, due := false }

/-- The share engine after a reset (R105). -/
def Share.reset : Share :=
  { peers := .replicate 15 Peer.reset, budget := 0, shareSelf := 0, lastY := 0, xt := 0, applied := 0, seq := 0,
    sentSeq := 0, thermal := 100, temps := none, droopFactor := 100, droop := false, warnRun := 0, tripRun := 0,
    reportTimer := none }

/-- The machine while a power-on reset lasts, every block at the power-on reset value its chapter gives
(R2, R17, R19, R20, R24, R105, R119, R132, R135, R150, R154, R182, R183, R187, R189). The straps are sampled
when the reset ends, by the command RESET_END. -/
def State.reset : State :=
  { bays := .replicate 8 BayRecord.reset,
    pacing := { ticks := 0, prescaler := 0, subTicks := 0, uptime := 0, firstTick := .awaited },
    scanner := { divider := 0, pass := none, results := .replicate 19 none },
    share := Share.reset,
    custody := { log := [], nextNumber := 0, overflow := 0, allSource := none, allCount := 0 },
    bids := [],
    lanes := { table := .replicate 4 none, drive := .replicate 4 false, claim := none, arrivals := 0 },
    bus := { txq := [], reqq := [], holding := false, holdCount := 0, rxErrors := 0, errorRun := 0, muted := false,
             line := .gap, recessive := 0, joined := false },
    handler := { interval := none, taken := none, summary := none },
    startup := { phase := .resetting, node := 0, feedClass := 0, image := defaultImage, firstFrame := none,
                 close := none, defaulted := false },
    inputs := { presence := 0, doorOpen := 0, busy := .replicate 4 false },
    freeCount := 0,
    pending := [] }

end Sys2Proof.Machine
end

