-- ==== Sys2Proof/Machine/Operands.lean ====
section
/-! DEFINITION. The operand forms of the SH8's commands: the frames of the cart bus bit by bit (R170, R171,
R173), their CRC-8 and the CRC-16 of the settings signature (R192), the receive checks and the routing of an
accepted frame (R172, R179), and the fields of a REQUEST payload (R184). -/

namespace Sys2Proof.Machine

/-! ### Bits, bytes and the two CRCs -/

/-- The low `w` bits of a number, most significant first: the order in which a field is sent (R170). -/
def natBits : Nat → Nat → List Bool
  | 0, _ => []
  | w + 1, v => v.testBit w :: natBits w v

/-- The low `n` bytes of a number, most significant first. -/
def natBytes : Nat → Nat → List Byte
  | 0, _ => []
  | n + 1, v => BitVec.ofNat 8 (v / 256 ^ n) :: natBytes n v

/-- The number that a list of bytes spells, most significant byte first. -/
def bytesNat (bs : List Byte) : Nat := bs.foldl (fun a b => a * 256 + b.toNat) 0

/-- Bits `hi` down to `lo` of a payload read as one number (R173). -/
def bitField (p hi lo : Nat) : Nat := p / 2 ^ lo % 2 ^ (hi - lo + 1)

/-- One step of a CRC register: shifted left by one place and, if the bit that left it differs from the
frame bit, exclusive-ored with the generator (R170, R192). -/
def crcStep {w : Nat} (poly reg : BitVec w) (bit : Bool) : BitVec w :=
  if reg.msb != bit then (reg <<< 1) ^^^ poly else reg <<< 1

/-- R170: the CRC-8 over a frame's bits from the first class bit to the last payload bit. -/
def crc8 (bits : List Bool) : Byte := bits.foldl (crcStep 0x9B#8) 0xFF#8

/-- R192: the signature of a settings image. -/
def signatureOf (img : Image) : BitVec 16 :=
  (img.toArray.toList.flatMap (natBits 16)).foldl (crcStep 0x1021#16) 0xFFFF#16

end Sys2Proof.Machine

namespace Sys2Proof
open Machine

/-- The fields of a frame before its length, in the order sent (R170, R171). -/
structure FrameHeader where
  cls  : BitVec 3
  key  : Byte
  src  : Node
  dst  : Node
  kind : BitVec 4
deriving DecidableEq, Repr

/-- The bits of a header in the order sent (R170). -/
def FrameHeader.bits (h : FrameHeader) : List Bool :=
  natBits 3 h.cls.toNat ++ natBits 8 h.key.toNat ++ natBits 4 h.src.toNat ++ natBits 4 h.dst.toNat ++
  natBits 4 h.kind.toNat

/-- The header of a frame read. -/
def RxFrame.header (f : RxFrame) : FrameHeader :=
  { cls := f.cls, key := f.key, src := f.src, dst := f.dst, kind := f.kind }

/-- The bits of a frame that its CRC covers, in the order sent (R170). -/
def RxFrame.covered (f : RxFrame) : List Bool :=
  f.header.bits ++ natBits 4 f.len.toNat ++ f.payload.flatMap fun b => natBits 8 b.toNat

/-- R170: every bit of a frame in the order sent, the start bit first; dominant is `false`. -/
def RxFrame.lineBits (f : RxFrame) : List Bool :=
  false :: f.covered ++ natBits 8 f.crc.toNat ++ [f.end1, f.end2]

end Sys2Proof

namespace Sys2Proof.Machine

/-! ### Receive checks and routing -/

/-- R171: how many kinds a frame class has; they are numbered from 1. -/
def kindCount (cls : BitVec 3) : Nat := [2, 2, 2, 15, 6, 1, 1, 3].getD cls.toNat 0

end Sys2Proof.Machine

namespace Sys2Proof
open Machine

/-- R172 check 2: the class and kind are known. -/
def RxFrame.known (f : RxFrame) : Bool := 1 ≤ f.kind.toNat && f.kind.toNat ≤ kindCount f.cls

/-- R172 check 3: a BID, LANE, REPORT or LOG frame has the length its layout takes. -/
def RxFrame.lengthFits (f : RxFrame) : Bool :=
  match f.cls.toNat with
  | 1 => f.len.toNat == 6
  | 2 => f.len.toNat == 1
  | 5 => f.len.toNat == 8
  | 7 => f.len.toNat == if f.kind.toNat == 3 then 3 else 8
  | _ => true

/-- The lane number a LANE frame carries: the upper half of its payload byte (log entry 8). -/
def RxFrame.laneByteLane (f : RxFrame) : Nat := (f.payload.headD 0).toNat / 16

/-- The bay a LANE CLAIM carries: the lower half of its payload byte (log entry 8). -/
def RxFrame.laneByteBay (f : RxFrame) : Nat := (f.payload.headD 0).toNat % 16

/-- R172 check 9: a LANE frame's lane is 1..4 and equals its key. -/
def RxFrame.laneFits (f : RxFrame) : Bool :=
  f.cls != 2#3 || (1 ≤ f.laneByteLane && f.laneByteLane ≤ 4 && f.laneByteLane == f.key.toNat)

/-- R172 checks 1 to 5 and 7 to 9: all of them but the destination check. -/
def RxFrame.passesChecks (own : Node) (f : RxFrame) : Bool :=
  f.len.toNat ≤ 8 && f.known && f.lengthFits && crc8 f.covered == f.crc && (f.end1 && f.end2) &&
  f.src != own && f.src != 0#4 && f.laneFits

/-- R172 check 6: the destination is 0 or this station's node number. -/
def RxFrame.forUs (own : Node) (f : RxFrame) : Bool := f.dst == 0#4 || f.dst == own

end Sys2Proof

namespace Sys2Proof.Machine

/-- The kind of a REQUEST frame, from its number (R171). -/
def requestKindOf (kind : BitVec 4) : Option RequestKind :=
  match kind.toNat with
  | 1 => some .openBay
  | 2 => some .openAll
  | 3 => some .dispense
  | 4 => some .returnTablet
  | 5 => some .withdraw
  | 6 => some .provision
  | 7 => some .jobResult
  | 8 => some .tabletInfo
  | 9 => some .connectorCheck
  | 10 => some .clearFault
  | 11 => some .query
  | 12 => some .fetchLog
  | 13 => some .restart
  | 14 => some .settings
  | 15 => some .settingsClose
  | _ => none

/-- What becomes of a frame that was read from the line (R172, R179). -/
inductive Route where
  | dropped | passedOver | ignored | report | bid | laneClaim | laneFree | request (kind : RequestKind)
deriving DecidableEq, Repr

end Sys2Proof.Machine

namespace Sys2Proof
open Machine

/-- R179: the block an accepted frame is handed to. -/
def RxFrame.handedTo (f : RxFrame) : Route :=
  match f.cls.toNat, f.kind.toNat with
  | 1, _ => .bid
  | 2, 1 => .laneClaim
  | 2, _ => .laneFree
  | 3, _ => match requestKindOf f.kind with
    | some k => .request k
    | none => .dropped
  | 5, _ => .report
  | _, _ => .ignored

/-- R172: a frame read from the line is dropped, passed over, or accepted and routed. -/
def RxFrame.route (own : Node) (f : RxFrame) : Route :=
  if !f.passesChecks own then .dropped
  else if !f.forUs own then .passedOver
  else f.handedTo

end Sys2Proof

namespace Sys2Proof.Machine

/-! ### Payloads of the frames heard -/

/-- The fields of a REPORT payload (R173); u and n above 8 are taken as 8 (R85). -/
structure ReportFields where
  keep      : Nat
  urgent    : Nat
  urgentN   : Nat
  normal    : Nat
  normalN   : Nat
  ceiling   : Nat
  lanes     : Vector Bool 4
  seq       : Nat
  droop     : Bool
  feedClass : BitVec 2
deriving DecidableEq, Repr

/-- R173, R85: a REPORT payload read. -/
def readReport (payload : List Byte) : ReportFields :=
  let p := bytesNat payload
  { keep := bitField p 63 54, urgent := bitField p 53 44, urgentN := min 8 (bitField p 43 40),
    normal := bitField p 39 30, normalN := min 8 (bitField p 29 26), ceiling := bitField p 25 16,
    lanes := #v[p.testBit 12, p.testBit 13, p.testBit 14, p.testBit 15],
    seq := bitField p 11 8, droop := p.testBit 7, feedClass := BitVec.ofNat 2 (bitField p 6 5) }

/-- The request a BID payload names: its source and request number (R173). -/
def readBid (payload : List Byte) : Reservation :=
  let p := bytesNat payload
  { source := BitVec.ofNat 4 (bitField p 47 44), request := BitVec.ofNat 16 (bitField p 43 28) }

/-! ### Frames sent -/

/-- R171, R176: the class of a frame the part sends. -/
def TxFrame.cls : TxFrame → Nat
  | .hold _ | .resume _ => 0
  | .bid _ => 1
  | .claim _ _ | .free _ => 2
  | .answer _ _ => 4
  | .report _ => 5
  | .summary _ => 6
  | .logPart1 _ _ | .logPart2 _ _ | .logEmpty _ _ _ => 7

/-- A tag or other optional value as a payload carries it: absent is sent as 0 (R173). -/
def tagNat (t : Option Tag) : Nat := (t.map BitVec.toNat).getD 0

/-- A level as a payload carries it: 2047 is the absent code (R173). -/
def levelCode (l : Option Nat) : Nat := l.getD 2047

/-- A Boolean as a payload bit. -/
def bitNat (b : Bool) : Nat := if b then 1 else 0

/-- R173: the number of a release log record's kind. -/
def RecordKind.number : RecordKind → Nat
  | .dispensed => 1 | .returned => 2 | .opened => 3 | .lapsed => 4 | .forced => 5
  | .withdrawn => 6 | .refused => 7 | .openAtStart => 8 | .anomaly => 9

/-- R173: the REPORT payload as one 64-bit number. -/
def OwnReport.payload (r : OwnReport) : Nat :=
  r.keep * 2 ^ 54 + r.urgent * 2 ^ 44 + r.urgentN * 2 ^ 40 + r.normal * 2 ^ 30 + r.normalN * 2 ^ 26 +
  r.ceiling * 2 ^ 16 +
  (bitNat r.lanes[3] * 2 ^ 15 + bitNat r.lanes[2] * 2 ^ 14 + bitNat r.lanes[1] * 2 ^ 13 + bitNat r.lanes[0] * 2 ^ 12) +
  r.seq * 2 ^ 8 + bitNat r.droop * 2 ^ 7 + r.feedClass.toNat * 2 ^ 5

/-- R173: the BID payload as one 48-bit number. -/
def OwnBid.payload (b : OwnBid) : Nat :=
  b.source.toNat * 2 ^ 44 + b.request.toNat * 2 ^ 28 + bayNumber b.bay * 2 ^ 24 + b.score * 2 ^ 16 +
  levelCode b.level * 2 ^ 5 + bitNat b.tagMatch * 2 ^ 4

/-- R173: the LOG PART1 payload as one 64-bit number. -/
def LogRecord.payload1 (r : LogRecord) : Nat :=
  r.number * 2 ^ 48 + r.uptime * 2 ^ 16 + r.bay * 2 ^ 12 + r.kind.number * 2 ^ 8 +
  (r.requester.map BitVec.toNat).getD 0 * 2 ^ 4

/-- R173: the LOG PART2 payload as one 64-bit number. -/
def LogRecord.payload2 (r : LogRecord) : Nat :=
  (r.request.map BitVec.toNat).getD 0 * 2 ^ 48 + tagNat r.tag * 2 ^ 16 + levelCode r.level * 2 ^ 5 +
  bitNat r.request.isSome * 2 ^ 4 + bitNat r.tag.isSome * 2 ^ 3 + r.number % 8

/-- R171: the kind number of an ANSWER, in the order the table lists them. -/
def Answer.kindNumber : Answer → Nat
  | .accepted _ _ => 1
  | .refused _ _ _ => 2
  | .status _ _ _ _ _ => 3
  | .jobConnected _ _ _ => 4
  | .grantVoid _ _ => 5
  | .full _ _ => 6

/-- R171: the kind number of a frame the part sends. -/
def TxFrame.kindNumber : TxFrame → Nat
  | .hold _ | .claim _ _ | .report _ | .summary _ | .logPart1 _ _ => 1
  | .resume _ | .free _ | .logPart2 _ _ => 2
  | .bid b => match b.kind with
    | .dispense => 1
    | .returnTablet => 2
  | .answer _ a => a.kindNumber
  | .logEmpty _ _ _ => 3

/-- R171: the key of a frame the part sends. -/
def TxFrame.key : TxFrame → Nat
  | .bid b => 255 - b.score
  | .claim lane _ | .free lane => laneNumber lane
  | .hold _ | .resume _ | .answer _ _ | .report _ | .summary _ | .logPart1 _ _ | .logPart2 _ _ | .logEmpty _ _ _ => 0

/-- R171: the destination of a frame the part sends: the node answered, the FETCH_LOG requester, or 0, all nodes. -/
def TxFrame.dst : TxFrame → Node
  | .answer dst _ | .logPart1 dst _ | .logPart2 dst _ | .logEmpty dst _ _ => dst
  | .hold _ | .resume _ | .bid _ | .claim _ _ | .free _ | .report _ | .summary _ => 0

/-- R171, R187: the header of a frame that station `own` sends. -/
def TxFrame.header (own : Node) (f : TxFrame) : FrameHeader :=
  { cls := BitVec.ofNat 3 f.cls, key := BitVec.ofNat 8 f.key, src := own, dst := f.dst,
    kind := BitVec.ofNat 4 f.kindNumber }

/-- R171, R173: the payload of a frame the part sends, for every frame whose payload layout the manual gives. Those of
ANSWER and SUMMARY are not given (log entry 7). -/
def TxFrame.payload : TxFrame → Option (List Byte)
  | .hold count | .resume count => some (natBytes 1 count)
  | .bid b => some (natBytes 6 b.payload)
  | .claim lane bay => some (natBytes 1 (laneNumber lane * 16 + bayNumber bay))
  | .free lane => some (natBytes 1 (laneNumber lane * 16))
  | .answer _ _ | .summary _ => none
  | .report r => some (natBytes 8 r.payload)
  | .logPart1 _ r => some (natBytes 8 r.payload1)
  | .logPart2 _ r => some (natBytes 8 r.payload2)
  | .logEmpty _ nextNumber overflow => some (natBytes 3 (nextNumber * 256 + overflow))

/-- A frame as it stands on the line, its length and CRC computed and both end bits recessive (R170). -/
def sealFrame (h : FrameHeader) (payload : List Byte) : RxFrame :=
  let f : RxFrame :=
    { cls := h.cls, key := h.key, src := h.src, dst := h.dst, kind := h.kind, len := BitVec.ofNat 4 payload.length,
      payload := payload, crc := 0, end1 := true, end2 := true }
  { f with crc := crc8 f.covered }

/-- R171: a frame of station `own` as it stands on the line, for every frame whose payload layout the manual gives. -/
def TxFrame.onLine (own : Node) (f : TxFrame) : Option RxFrame := f.payload.map (sealFrame (f.header own))

/-- R170, R171: the bits of a frame of station `own` that the manual lays out, in the order sent, the start bit first:
all of them, or, of an ANSWER or SUMMARY, those before its length. -/
def TxFrame.bits (own : Node) (f : TxFrame) : List Bool :=
  match f.onLine own with
  | some x => x.lineBits
  | none => false :: (f.header own).bits

/-! ### REQUEST payloads -/

/-- The payload byte at an offset; 0 where the payload is shorter, which no accepted use reads. -/
def byteAt (p : List Byte) (i : Nat) : Nat := (p.getD i 0).toNat

/-- The two-byte field at an offset, more significant byte first (R184). -/
def wordAt (p : List Byte) (i : Nat) : Nat := byteAt p i * 256 + byteAt p (i + 1)

/-- The tag at an offset: four bytes (R184). -/
def tagAt (p : List Byte) (i : Nat) : Tag := BitVec.ofNat 32 (wordAt p i * 65536 + wordAt p (i + 2))

/-- A bay number as a request carries it: none outside 1..8. -/
def bayOf (n : Nat) : Option Bay := if h : 1 ≤ n ∧ n ≤ 8 then some ⟨n - 1, by omega⟩ else none

/-- The bay number of a request that carries one: the byte after the request number (R184). -/
def Request.bayArg (q : Request) : Nat := byteAt q.payload 2

/-- R184: the target of a QUERY; none where it is unknown or missing. -/
def Request.target (q : Request) : Option QueryTarget :=
  if q.payload.length < 3 then none
  else match byteAt q.payload 2 with
    | 1 => some .bay
    | 2 => some .job
    | 3 => some .peers
    | 4 => some .shelf
    | _ => none

/-- R184: whether the payload length is one the request's kind takes. A QUERY of unknown target takes the
length of "any other target". -/
def Request.lengthFits (q : Request) : Bool :=
  let n := q.payload.length
  match q.kind with
  | .openAll | .fetchLog | .restart => n == 2
  | .openBay | .connectorCheck | .clearFault => n == 3
  | .settingsClose => n == 4
  | .withdraw | .settings => n == 5
  | .jobResult => n == 6
  | .provision => n == 7
  | .tabletInfo => n == 8
  | .query => match q.target with
    | some .bay | some .job => n == 4
    | _ => n == 3
  | .dispense => n == 3 || n == 7
  | .returnTablet => n == 2 || n == 6

/-- R184: the job kind of a PROVISION; none where it is unknown. -/
def jobKindOf (n : Nat) : Option JobKind :=
  match n with
  | 1 => some .identify
  | 2 => some .image
  | 3 => some .update
  | 4 => some .wipe
  | _ => none

/-- R184: the result of a JOB_RESULT; none where it is unknown. -/
def resultOf (n : Nat) : Option JobOutcome :=
  match n with
  | 1 => some .done
  | 2 => some .failed
  | _ => none

end Sys2Proof.Machine
end

