-- ==== Sys2Proof/Machine/Ops.lean ====
section
/-! DEFINITION. The named operations every family of commands is written over: access to a bay's record, the
timers of R18, the transmit queue (R176, R177), the flow-control resume (R181), the release log (R128) and the
answers of the request handler (R183). -/

namespace Sys2Proof.Machine

/-! ### An event and its condition -/

/-- What a command does to the state when the event it names can occur; otherwise the state is left (log entry 1). -/
def State.when (s : State) (c : Bool) (f : State → State) : State := if c then f s else s

/-! ### Bays -/

/-- The record of a bay. -/
def State.bay (s : State) (b : Bay) : BayRecord := s.bays[b]

/-- The state with a bay's record replaced. -/
def State.setBay (s : State) (b : Bay) (r : BayRecord) : State := { s with bays := s.bays.set b r }

/-- The state with a function applied to a bay's record. -/
def State.modBay (s : State) (b : Bay) (f : BayRecord → BayRecord) : State := s.setBay b (f (s.bay b))

/-- The bays in ascending order. -/
def allBays : List Bay := [0, 1, 2, 3, 4, 5, 6, 7]

/-- The state with a function applied to every bay's record. -/
def State.mapBays (s : State) (f : Bay → BayRecord → BayRecord) : State :=
  allBays.foldl (fun t b => t.modBay b (f b)) s

/-- An operation done for every bay in ascending order. -/
def State.forBays (s : State) (f : State → Bay → State) : State := allBays.foldl f s

/-- A sum over the bays. -/
def sumBays (f : Bay → Nat) : Nat := (allBays.map f).sum

/-- How many bays meet a condition. -/
def countBays (f : Bay → Bool) : Nat := (allBays.filter f).length

/-! ### Timers and counts -/

/-- R18: a timer at a tick. A due expiry stays due until it is taken (log entry 2). -/
def Timer.tick (t : Timer) : Timer := t.map (· - 1)

/-- A timer whose expiry is due. -/
def Timer.due (t : Timer) : Bool := t == some 0

/-- The 8 MHz clock edge of the present command, counted from the reset: 8000 edges to a tick (R17). -/
def State.nowEdge (s : State) : Nat := s.pacing.ticks * 8000 + s.pacing.prescaler

/-- The clock edge of the present command known: counted from the latest tick (log entry 6). -/
def State.atEdge (s : State) (edge : Nat) : State := { s with pacing := { s.pacing with prescaler := edge } }

/-! ### The line -/

/-- R169: the number of consecutive recessive bit times that makes the line idle. -/
def gapBits : Nat := 12

/-- R169: where the bus interface stands on the line, replaced: the recessive bits of the gap are counted from 0 again,
and the line is idle once all of them have been counted. `joined` is of an attempt alone (R174). -/
def State.withLine (s : State) (l : Line) (joined : Bool := false) : State :=
  { s with bus := { s.bus with line := l, recessive := if l = .idle then gapBits else 0, joined := joined } }

/-- R169, R174: the output DRV_EN in the bit time that stands `k` bit times after the start bit of the attempt in progress:
asserted while the station sends a frame of its own, from the start bit, or, where that was another node's, from the class
field, to the bit at which the attempt ends. -/
def State.drvEn (s : State) (k : Nat) : Bool := s.bus.line == .attempt && (k != 0 || !s.bus.joined)

/-! ### Settings in force -/

/-- The settings the blocks work to: the image from entry into RUN on, the defaults before it (R191). -/
def State.force (s : State) : Image := if s.startup.phase = .run then s.startup.image else defaultImage

/-- The tablet profile a bay selects, read at the moment it is used (R6). -/
def State.profile (s : State) (b : Bay) : Profile := profileOf s.force (s.bay b).profile

/-- The part is in CONFIG or in RUN: straps name a node, and no reset lasts (R189). -/
def State.awake (s : State) : Bool := s.startup.phase == .config || s.startup.phase == .run

/-- The part is in RUN. -/
def State.running (s : State) : Bool := s.startup.phase == .run

/-! ### The transmit queue -/

/-- A frame that a later one of its class replaces while it is unsent: REPORT and FLOW (R177). -/
def TxFrame.replaceable (f : TxFrame) : Bool := f.cls == 0 || f.cls == 5

/-- An ANSWER frame: the only class the bus interface takes in CONFIG (R176). -/
def TxFrame.isAnswer (f : TxFrame) : Bool := f.cls == 4

/-- R176: whether the bus interface takes any offer of this frame at all: none while muted, ANSWER frames in
CONFIG, every frame in RUN. -/
def State.takesOffer (s : State) (f : TxFrame) : Bool :=
  !s.bus.muted && (s.startup.phase == .run || (s.startup.phase == .config && f.isAnswer))

/-- R176: a frame placed behind every queued frame of its own or a lower class. -/
def insertFrame (f : TxFrame) : List TxEntry → List TxEntry
  | [] => [{ frame := f, sending := false, doomed := false }]
  | e :: q =>
    if e.frame.cls ≤ f.cls then e :: insertFrame f q
    else { frame := f, sending := false, doomed := false } :: e :: q

/-- R177: an unsent frame of the same class, which a REPORT or FLOW offered replaces. -/
def TxEntry.replacedBy (e : TxEntry) (f : TxFrame) : Bool := !e.sending && e.frame.cls == f.cls

/-- R177: the queue with the first unsent frame of the offered frame's class replaced, in its place. -/
def replaceFrame (f : TxFrame) : List TxEntry → List TxEntry
  | [] => []
  | e :: q => if e.replacedBy f then { frame := f, sending := false, doomed := false } :: q else e :: replaceFrame f q

/-- The number of frames the transmit queue holds (R176). -/
def txCapacity : Nat := 8

/-- The state with the transmit queue replaced. -/
def State.withTxq (s : State) (q : List TxEntry) : State := { s with bus := { s.bus with txq := q } }

/-- R176, R177: a frame offered to the bus interface: the state with the frame taken, or none where the offer
is refused. -/
def State.offer (s : State) (f : TxFrame) : Option State :=
  if !s.takesOffer f then none
  else if f.replaceable && s.bus.txq.any (·.replacedBy f) then some (s.withTxq (replaceFrame f s.bus.txq))
  else if s.bus.txq.length < txCapacity then some (s.withTxq (insertFrame f s.bus.txq))
  else none

/-- A frame offered and, where the offer is refused, dropped (R176). -/
def State.offerOrDrop (s : State) (f : TxFrame) : State := (s.offer f).getD s

/-- R176: the two LOG frames of one record, offered together: taken if two places are free. -/
def State.offerPair (s : State) (f g : TxFrame) : Option State :=
  if s.takesOffer f && s.takesOffer g && s.bus.txq.length + 2 ≤ txCapacity then
    some (s.withTxq (insertFrame g (insertFrame f s.bus.txq)))
  else none

/-- R181: the last two rows: with the request queue at 3 or less, a holding station offers FLOW RESUME and holds
no longer once it is taken; in CONFIG and while muted holding ends without it. -/
def State.resumeEvent (s : State) : State :=
  if s.bus.holding && s.bus.reqq.length ≤ 3 then
    if s.bus.muted || s.startup.phase == .config then { s with bus := { s.bus with holding := false } }
    else match s.offer (.resume s.bus.reqq.length) with
      | some t => { t with bus := { t.bus with holding := false } }
      | none => s
  else s

/-- R177: the frames that meet `p` leave the queue; if any did, the place freed is told to flow control. -/
def State.removeFrames (s : State) (p : TxEntry → Bool) : State :=
  if s.bus.txq.any p then (s.withTxq (s.bus.txq.filter (!p ·))).resumeEvent else s

/-- The queue entry whose attempt is in progress. -/
def State.sendingEntry (s : State) : Option TxEntry := s.bus.txq.find? (·.sending)

/-- The BID frame of a request (R134: one entry per request). -/
def TxFrame.isBidFor (f : TxFrame) (source : Node) (request : ReqNo) : Bool :=
  match f with
  | .bid b => b.source == source && b.request == request
  | _ => false

/-- Whether a frame is a LANE CLAIM. -/
def TxFrame.isClaim : TxFrame → Bool
  | .claim _ _ => true
  | _ => false

/-- R96: a queued REPORT without its pending raise. -/
def TxFrame.withoutRaise : TxFrame → TxFrame
  | .report r => .report { r with raise := none }
  | f => f

/-- R96: the pending raise of every own REPORT, queued or in transmission, is discarded. -/
def State.discardRaises (s : State) : State :=
  s.withTxq (s.bus.txq.map fun e => { e with frame := e.frame.withoutRaise })

/-! ### The release log -/

/-- The number of records the release log holds (R128). -/
def logCapacity : Nat := 16

/-- R128: a record joins the log as the newest; a seventeenth discards the oldest. -/
def State.addRecord (s : State) (bay : Nat) (kind : RecordKind) (requester : Option Node) (request : Option ReqNo)
    (tag : Option Tag) (level : Option Nat) : State :=
  let r : LogRecord :=
    { number := s.custody.nextNumber, uptime := s.pacing.uptime, bay := bay, kind := kind, requester := requester,
      request := request, tag := tag, level := level }
  let log := s.custody.log ++ [r]
  let next := (s.custody.nextNumber + 1) % 65536
  if log.length > logCapacity then
    { s with custody := { s.custody with log := log.tail, nextNumber := next, overflow := min 255 (s.custody.overflow + 1) } }
  else { s with custody := { s.custody with log := log, nextNumber := next } }

/-! ### Answers -/

/-- R183: an answer to a request, offered to the transmit queue and dropped where it is refused. -/
def State.answer (s : State) (q : Request) (a : Answer) : State := s.offerOrDrop (.answer q.src a)

/-- R184: ANSWER ACCEPTED. -/
def State.accept (s : State) (q : Request) : State := s.answer q (.accepted q.kind q.number)

/-- R184: ANSWER REFUSED with its reason. -/
def State.refuse (s : State) (q : Request) (r : Reason) : State := s.answer q (.refused q.kind q.number r)

end Sys2Proof.Machine
end

