-- ==== Sys2Proof/Machine/Flags.lean ====
section
/-! DEFINITION. The conditions the blocks read from one another's fields: what a charge state fixes (R33), the
readiness of a job (R153), the lanes the station holds (R154), the conversions of the result table (R22, R23),
the policies in force (R61), authority (R122, R123) and the attention code (R188). -/

namespace Sys2Proof.Machine

/-! ### Charge states -/

/-- R33: the states whose stage is on. -/
def ChargeState.stageOn : ChargeState → Bool
  | .softstart | .bulk | .taper | .maintain => true
  | .disabled | .empty | .detect | .paused | .retryWait | .faulted | .quarantined => false

/-- R33, R46: the states in which the charge time counts. -/
def ChargeState.timeCounts : ChargeState → Bool
  | .softstart | .bulk | .taper => true
  | .disabled | .empty | .detect | .maintain | .paused | .retryWait | .faulted | .quarantined => false

/-- R49: the states with a charging demand. -/
def ChargeState.demands : ChargeState → Bool
  | .detect | .softstart | .bulk | .taper | .paused | .retryWait => true
  | .disabled | .empty | .maintain | .faulted | .quarantined => false

/-- R137, R139: the states a bay may be dispensed from. -/
def ChargeState.dispensable : ChargeState → Bool
  | .softstart | .bulk | .taper | .maintain | .paused => true
  | .disabled | .empty | .detect | .retryWait | .faulted | .quarantined => false

/-- FAULTED or QUARANTINED (R151, R166). -/
def ChargeState.stopped : ChargeState → Bool
  | .faulted | .quarantined => true
  | .disabled | .empty | .detect | .softstart | .bulk | .taper | .maintain | .paused | .retryWait => false

/-- R62: the short comparator and the three runs of a bay are armed while its stage-on state lasts. -/
def BayRecord.armed (r : BayRecord) : Bool := r.charge.state.stageOn

/-- The door is open by the lock's account: OPEN, AJAR or FORCED (R107). -/
def LockState.doorOpen : LockState → Bool
  | .opened | .ajar | .forced => true
  | .secured | .granted => false

/-! ### Jobs -/

/-- R150: a job that has not ended. -/
def Job.live (j : Job) : Bool := j.state != .ended

/-- The state of the bay's job, if its slot holds one (R150). -/
def BayRecord.jobState (r : BayRecord) : Option JobState := r.slot.map (·.state)

/-- The bay's slot holds a live job. -/
def BayRecord.hasLiveJob (r : BayRecord) : Bool := r.slot.any Job.live

/-- R153: the conditions of readiness of a bay's job. -/
def State.ready (s : State) (b : Bay) : Bool :=
  let r := s.bay b
  r.presence.value && r.charge.state.stageOn && r.lock.state == .secured && r.reservation.isNone &&
  s.running && !s.bus.muted

/-- R156, R163: the bay's keep allotment is at least the profile's awake power. -/
def State.powered (s : State) (b : Bay) : Bool := (s.profile b).awakePower ≤ (s.bay b).charge.keep

/-- R152: the level a job of the heavier kinds waits for is reached: the bay is in MAINTAIN, or its level is
present and at least the profile's provisioning minimum. -/
def State.levelMet (s : State) (b : Bay) : Bool :=
  let c := (s.bay b).charge
  c.state == .maintain || c.level.any (fun l => (s.profile b).provisioningMin * 10 ≤ l)

/-! ### Lanes -/

/-- R154: the station holds a lane when the lane table names its own node. -/
def State.holds (s : State) (x : Lane) : Bool := s.lanes.table[x].any (·.node == s.startup.node)

/-- R154: the lane set the REPORT carries. -/
def State.laneSet (s : State) : Vector Bool 4 := #v[s.holds 0, s.holds 1, s.holds 2, s.holds 3]

/-- A lane's busy line as the part reads it: busy when this station or another asserts it (spec/00_scope.md,
"Scope": wired so that any station asserting a line makes it read busy at every station). -/
def State.busyLine (s : State) (x : Lane) : Bool := s.inputs.busy[x] || s.lanes.drive[x]

/-! ### Values of the result table -/

/-- R22: a bay current code in mA. -/
def currentOf (code : BitVec 12) : Int := ((code.toNat : Int) - 2048) * 2

/-- R22: a bay voltage code in mV. -/
def voltageOf (code : BitVec 12) : Nat := code.toNat * 5

/-- R23: a rail code in mV. -/
def railOf (code : BitVec 12) : Nat := code.toNat * 10

/-- R23: a temperature code in °C; full scale, an open sensor, reads 205. -/
def temperatureOf (code : BitVec 12) : Int := if code = 4095#12 then 205 else (code.toNat / 16 : Nat) - 50

/-- The scan list position (from 0) of a bay's current channel; its voltage channel follows (R21). -/
def currentChannel (b : Bay) : Fin 19 := ⟨2 * b.val, by omega⟩

/-- The scan list position (from 0) of a bay's voltage channel (R21). -/
def voltageChannel (b : Bay) : Fin 19 := ⟨2 * b.val + 1, by omega⟩

/-! ### Policies -/

/-- R191: a policy from its settings value. -/
def policyFrom (n : Nat) : Policy :=
  match n with
  | 0 => .warn
  | 1 => .stop
  | 2 => .retry
  | _ => .latch

/-- R61: the policy in force for a fault class, with the replacements of the values a class does not accept. -/
def policyOf (img : Image) : FaultClass → Policy
  | .short => match policyFrom (itemOf img 61) with | .warn => .retry | p => p
  | .overload => policyFrom (itemOf img 62)
  | .overvolt => policyFrom (itemOf img 63)
  | .backfeed => policyFrom (itemOf img 64)
  | .noTaper => match policyFrom (itemOf img 65) with | .retry => .stop | p => p
  | .connector => policyFrom (itemOf img 66)

/-- The six fault classes in the order of R61. -/
def faultClasses : List FaultClass := [.short, .overload, .overvolt, .backfeed, .noTaper, .connector]

/-! ### Authority -/

/-- R191: a level of the authority table from its settings value. -/
def authorityFrom (n : Nat) : Authority :=
  match n with
  | 0 => .panel
  | 1 => .teacher
  | 2 => .service
  | _ => .gateway

/-- R122: the level of a node, by the lowest-numbered non-empty entry that names it. -/
def State.authority (s : State) (m : Node) : Option Authority :=
  ([1, 2, 3, 4].find? fun k => itemOf s.force (76 + k) != 0 && itemOf s.force (76 + k) == m.toNat).map
    fun k => authorityFrom (itemOf s.force (80 + k))

/-- R122: whether a level counts as another: SERVICE as TEACHER and PANEL, TEACHER as PANEL, GATEWAY as itself
alone. -/
def Authority.countsAs : Authority → Authority → Bool
  | .service, .panel | .service, .teacher | .service, .service => true
  | .teacher, .panel | .teacher, .teacher => true
  | .panel, .panel => true
  | .gateway, .gateway => true
  | _, _ => false

/-- R123: a node named in the table at a level that counts as the least one. -/
def State.authorized (s : State) (m : Node) (least : Authority) : Bool := (s.authority m).any (·.countsAs least)

/-- R123: a node named in the table at any level. -/
def State.known (s : State) (m : Node) : Bool := (s.authority m).isSome

/-- R123: the authority check of a request kind. A CLEAR_FAULT is checked further by R77, a WITHDRAW, QUERY
and FETCH_LOG need only a named node, and SETTINGS and SETTINGS_CLOSE are not checked. -/
def State.permitted (s : State) (k : RequestKind) (m : Node) : Bool :=
  match k with
  | .dispense | .returnTablet => s.authorized m .panel
  | .openBay => s.authorized m .teacher
  | .openAll | .restart => s.authorized m .service
  | .provision | .jobResult | .tabletInfo | .connectorCheck => s.authorized m .gateway
  | .clearFault | .withdraw | .query | .fetchLog => s.known m
  | .settings | .settingsClose => true

/-! ### Attention -/

/-- R80: QUARANTINE_OR_LATCH: in RUN, a bay is QUARANTINED, or FAULTED with the latched mark. -/
def State.quarantineOrLatch (s : State) : Bool :=
  s.running && allBays.any fun b =>
    (s.bay b).charge.state == .quarantined || ((s.bay b).charge.state == .faulted && (s.bay b).prot.latched)

/-- R133: FORCED_OPEN: the release log holds a FORCED record. -/
def State.forcedOpen (s : State) : Bool := s.custody.log.any (·.kind == .forced)

/-- R133: AJAR: a bay's lock state is AJAR. -/
def State.anyAjar (s : State) : Bool := allBays.any fun b => (s.bay b).lock.state == .ajar

/-- R133: LOG_HIGH: the release log holds 13 or more records. -/
def State.logHigh (s : State) : Bool := 13 ≤ s.custody.log.length

/-- R168: JOB_ENDED: a slot holds the unread mark. -/
def State.jobEnded (s : State) : Bool := allBays.any fun b => (s.bay b).slot.any (·.unread)

/-- R188: DEFAULTED: the part entered RUN with the defaulted flag set. -/
def State.defaultedCondition (s : State) : Bool := s.running && s.startup.defaulted

/-- R188: the attention code: the highest-priority condition active. -/
def State.attention (s : State) : Nat :=
  if s.quarantineOrLatch then 1
  else if s.forcedOpen then 2
  else if s.anyAjar then 3
  else if s.logHigh then 4
  else if s.jobEnded then 5
  else if s.defaultedCondition then 6
  else 0

end Sys2Proof.Machine
end

