-- ==== Sys2Proof/Machine/BidList.lean ====
section
/-! DEFINITION. The bid unit's operations: eligibility and scores (R137 to R140), the placing of a bid (R141),
its withdrawal, and the judging again of a reserved bay (R142). -/

namespace Sys2Proof.Machine

/-! ### Eligibility -/

/-- R137, R139, R140: the conditions every kind of bid puts on a bay that is not yet reserved. -/
def State.free (s : State) (b : Bay) : Bool := (s.bay b).lock.state == .secured && (s.bay b).reservation.isNone

/-- R137: the level condition of an untagged DISPENSE, the minimum in whole percent. -/
def BayRecord.levelServes (r : BayRecord) (minLevel : Nat) : Bool :=
  r.charge.state == .maintain || r.charge.level.any (fun l => minLevel * 10 ≤ l)

/-- R137: what an untagged DISPENSE asks of a bay apart from its lock and its reservation. -/
def BayRecord.servesDispense (r : BayRecord) (minLevel : Nat) : Bool :=
  r.populated && r.presence.value && !r.hasLiveJob && r.charge.state.dispensable && r.levelServes minLevel

/-- R139: what a tagged DISPENSE asks of the bay that holds the tag, apart from its lock and reservation. -/
def BayRecord.servesTagged (r : BayRecord) : Bool :=
  r.populated && r.presence.value && r.jobState != some .connected && r.charge.state.dispensable

/-- R140: what a RETURN asks of a bay apart from its lock and its reservation. -/
def BayRecord.servesReturn (r : BayRecord) : Bool := r.populated && r.charge.state == .empty

/-- R137: a bay eligible for a DISPENSE without a tag. -/
def State.eligibleDispense (s : State) (minLevel : Nat) (b : Bay) : Bool :=
  s.free b && (s.bay b).servesDispense minLevel

/-- R140: a bay eligible for a RETURN. -/
def State.eligibleReturn (s : State) (b : Bay) : Bool := s.free b && (s.bay b).servesReturn

/-! ### Scores and the choice of a bay -/

/-- A score clamped to 1..254 (R138, R140). -/
def clampScore (v : Int) : Nat := (max 1 (min 254 v)).toNat

/-- R138: the score of a bay eligible for an untagged DISPENSE. -/
def BayRecord.dispenseScore (r : BayRecord) : Nat :=
  clampScore ((r.charge.level.getD 0 / 5 : Nat) + (if r.charge.state == .maintain then 30 else 0) +
    (if r.charge.provisioned then 15 else 0) - 4 * (r.prot.score : Nat))

/-- The bay of a list that a measure puts highest; the earlier one where two are equal. -/
def bestBay (f : Bay → Int) : List Bay → Option Bay
  | [] => none
  | b :: bs => match bestBay f bs with
    | none => some b
    | some c => if f b ≥ f c then some b else some c

/-- R138: the bay offered for an untagged DISPENSE, with its score. -/
def State.offerDispense (s : State) (minLevel : Nat) : Option (Bay × Nat) :=
  (bestBay (fun b => (s.bay b).dispenseScore) (allBays.filter (s.eligibleDispense minLevel))).map
    fun b => (b, (s.bay b).dispenseScore)

/-- R139: the bay offered for a tagged DISPENSE, with score 255. -/
def State.offerTagged (s : State) (tag : Tag) : Option (Bay × Nat) :=
  (allBays.find? fun b => (s.bay b).charge.tag == some tag).bind fun b =>
    if s.free b && (s.bay b).servesTagged then some (b, 255) else none

/-- R140: the bay offered for a RETURN, with its score. -/
def State.offerReturn (s : State) (tag : Option Tag) : Option (Bay × Nat) :=
  let eligible := allBays.filter s.eligibleReturn
  match eligible.find? fun b => tag.isSome && (s.bay b).charge.departed == tag with
  | some b => some (b, 255)
  | none => (bestBay (fun b => -(((s.bay b).prot.score : Nat) : Int)) eligible).map fun b =>
      (b, clampScore (64 + 16 * (eligible.length : Nat) - 4 * ((s.bay b).prot.score : Nat)))

/-! ### The bid list -/

/-- The number of entries the bid list holds (R134). -/
def bidCapacity : Nat := 4

/-- Whether an entry is the pending bid of a request (R134). -/
def BidEntry.isFor (e : BidEntry) (source : Node) (request : ReqNo) : Bool :=
  e.source == source && e.request == request

/-- The pending bid of a request. -/
def State.bidFor (s : State) (source : Node) (request : ReqNo) : Option BidEntry :=
  s.bids.find? (·.isFor source request)

/-- The bid list with the entry of a request changed. -/
def State.modBid (s : State) (source : Node) (request : ReqNo) (f : BidEntry → BidEntry) : State :=
  { s with bids := s.bids.map fun e => if e.isFor source request then f e else e }

/-- The reservation of an entry, released from its bay if the bay still holds it (R142, R144). -/
def State.release (s : State) (e : BidEntry) : State :=
  s.modBay e.bay fun r =>
    if r.reservation == some { source := e.source, request := e.request } then { r with reservation := none } else r

/-- An entry removed from the bid list, with its reservation if still held (R134). -/
def State.dropBid (s : State) (e : BidEntry) : State :=
  { s with bids := s.bids.filter fun x => !x.isFor e.source e.request }.release e

/-- R142, R143, R145: a QUEUED bid withdrawn: its frame leaves the transmit queue, its reservation is released
and the entry is removed. -/
def State.withdrawBid (s : State) (e : BidEntry) : State :=
  (s.dropBid e).removeFrames fun x => !x.sending && x.frame.isBidFor e.source e.request

/-- R142, R148: a SENDING bid released: its reservation goes at once, the void mark is set and the entry waits
for the end of the attempt. -/
def State.voidBid (s : State) (e : BidEntry) : State :=
  (s.release e).modBid e.source e.request fun x => { x with void := true }

/-- R142: whether the bay of an entry still meets the conditions of its reservation: those of R137, R139 or
R140, with the job condition "absent or ENDED" for every kind. A DISPENSE of score 255 is a tag match, since
every other score is at most 254 (R138). -/
def State.meets (s : State) (e : BidEntry) : Bool :=
  let r := s.bay e.bay
  r.lock.state == .secured && !r.hasLiveJob &&
  match e.kind with
  | .dispense => if e.score = 255 then r.servesTagged else r.servesDispense e.minLevel
  | .returnTablet => r.servesReturn

/-- R142: a reserved bay judged again after a change of a field that its conditions read. -/
def State.judgeBid (s : State) (b : Bay) : State :=
  match (s.bay b).reservation with
  | none => s
  | some v =>
    match s.bids.find? fun e => e.isFor v.source v.request && e.bay == b with
    | none => s
    | some e => if s.meets e then s else if e.sending then s.voidBid e else s.withdrawBid e

/-- R141: a bid placed: the entry, the reservation, the window timer and the BID frame. The frame is offered
first; where it is refused no bid is made (R136 case 7). -/
def State.placeBid (s : State) (source : Node) (request : ReqNo) (kind : BidKind) (minLevel : Nat) (b : Bay)
    (score : Nat) (tagMatch : Bool) : Option State :=
  let frame : TxFrame :=
    .bid { kind := kind, source := source, request := request, bay := b, score := score,
           level := (s.bay b).charge.level, tagMatch := tagMatch }
  (s.offer frame).map fun t =>
    let entry : BidEntry :=
      { source := source, request := request, kind := kind, bay := b, score := score,
        window := some (bidWindowOf s.force), sending := false, void := false, minLevel := minLevel, withdrawal := false }
    { t with bids := t.bids ++ [entry] }.modBay b fun r =>
      { r with reservation := some { source := source, request := request } }

end Sys2Proof.Machine
end

