-- ==== Sys2Proof/Machine/LaneUnit.lean ====
section
/-! DEFINITION. The lane unit's operations: connecting and giving up a lane (R155), the claim in flight (R156,
R157, R159), suspending and ending a job (R163, R167), the judging again of a bay's job when a field it reads
has changed (R152, R153, R159, R163, R166), and what a peer's lane set does (R162). -/

namespace Sys2Proof.Machine

/-! ### Small updates -/

/-- The job in a bay's slot changed. -/
def State.modJob (s : State) (b : Bay) (f : Job → Job) : State := s.modBay b fun r => { r with slot := r.slot.map f }

/-- The claim in flight replaced. -/
def State.withClaim (s : State) (c : Option Claim) : State := { s with lanes := { s.lanes with claim := c } }

/-- A lane table entry replaced. -/
def State.withHolder (s : State) (x : Lane) (h : Option Holder) : State :=
  { s with lanes := { s.lanes with table := s.lanes.table.set x h } }

/-- A busy-line drive set. -/
def State.withDrive (s : State) (x : Lane) (on : Bool) : State :=
  { s with lanes := { s.lanes with drive := s.lanes.drive.set x on } }

/-- R154: an event names a node as holder of a lane: held-since is unchanged where the node is the holder
already. -/
def State.nameHolder (s : State) (x : Lane) (m : Node) (bay : Option Nat) : State :=
  let since := match s.lanes.table[x] with
    | some h => if h.node = m then h.since else s.pacing.uptime
    | none => s.pacing.uptime
  s.withHolder x (some { node := m, bay := bay, since := since })

/-- Every bay whose crosspoint names a lane opened (R13, R155). -/
def State.openCrosspoints (s : State) (x : Lane) : State :=
  s.mapBays fun _ r => if r.out.crosspoint = some x then { r with out := { r.out with crosspoint := none } } else r

/-- R155: a lane given up: crosspoint opened, busy line released, the own table entry freed with a LANE FREE
offered. -/
def State.giveUp (s : State) (x : Lane) : State :=
  let t := (s.openCrosspoints x).withDrive x false
  if t.holds x then (t.withHolder x none).offerOrDrop (.free x) else t

/-- R155: a bay connected to a lane: crosspoint, busy line, the job CONNECTED and an ANSWER JOB_CONNECTED. -/
def State.connect (s : State) (b : Bay) (x : Lane) : State :=
  match (s.bay b).slot with
  | none => s
  | some j =>
    (((s.modBay b fun r => { r with out := { r.out with crosspoint := some x } }).withDrive x true).modJob b
      fun j => { j with state := .connected, lane := some x }).offerOrDrop (.answer j.requester (.jobConnected j.id b x))

/-! ### The claim in flight -/

/-- R157, R159: the station's CLAIM withdrawn from the transmit queue, or, where an attempt of it is in
progress, marked to be withdrawn at the attempt's end. -/
def State.withdrawClaim (s : State) : State :=
  let q := s.bus.txq.map fun e => if e.sending && e.frame.isClaim then { e with doomed := true } else e
  (s.withTxq q).removeFrames fun e => !e.sending && e.frame.isClaim

/-- R159: the claim in flight abandoned, by its phase. -/
def State.abandonClaim (s : State) : State :=
  match s.lanes.claim with
  | none => s
  | some c => match c.phase with
    | .awaitingPower | .awaitingLane => s.withClaim none
    | .claimQueued _ => (s.withClaim none).withdrawClaim
    | .settling x _ => (s.withClaim none).giveUp x

/-- The lanes in ascending order. -/
def allLanes : List Lane := [0, 1, 2, 3]

/-- R157: the lane to pick: the lowest whose table entry is free and whose busy line reads idle. -/
def State.freeLane (s : State) : Option Lane := allLanes.find? fun x => s.lanes.table[x].isNone && !s.busyLine x

/-- R157: a lane picked for the claiming bay, or the phase AWAITING_LANE. -/
def State.pickLane (s : State) (b : Bay) : State :=
  match s.freeLane.bind fun x => (s.offer (.claim x b)).map fun t => (x, t) with
  | some (x, t) => t.withClaim (some { bay := b, phase := .claimQueued x })
  | none => s.withClaim (some { bay := b, phase := .awaitingLane })

/-- R156, R157: the claim in flight taken on as far as the present conditions let it go: with the awake power in
hand AWAITING_POWER goes on to pick a lane, and AWAITING_LANE picks again, which has no power test. -/
def State.stepClaim (s : State) : State :=
  match s.lanes.claim with
  | none => s
  | some c => match c.phase with
    | .awaitingPower => if s.powered c.bay then s.pickLane c.bay else s
    | .awaitingLane => s.pickLane c.bay
    | .claimQueued _ | .settling _ _ => s

/-- R157: a claim in flight at a distribution: without the awake power AWAITING_LANE and CLAIM_QUEUED return to
AWAITING_POWER, a queued CLAIM withdrawn. -/
def State.judgeClaimPower (s : State) : State :=
  match s.lanes.claim with
  | none => s
  | some c =>
    if s.powered c.bay then s
    else match c.phase with
      | .awaitingPower | .settling _ _ => s
      | .awaitingLane => s.withClaim (some { c with phase := .awaitingPower })
      | .claimQueued _ => (s.withClaim (some { c with phase := .awaitingPower })).withdrawClaim

/-- R153: the bays whose job is in WAIT_LANE and ready. -/
def State.readyBays (s : State) : List Bay := allBays.filter fun b => (s.bay b).jobState == some .waitLane && s.ready b

/-- The arrival order of a bay's job (R150). -/
def State.arrivalOf (s : State) (b : Bay) : Nat := ((s.bay b).slot.map (·.arrival)).getD 0

/-- R153: while no claim is in flight, the ready job with the smallest arrival order enters CLAIMING. Two jobs can have one
arrival order only once the arrival counter has passed its last value (log entry 5), and R153 says nothing of them: that the
lower bay's is taken is the model's choice (log entry 39). -/
def State.selectJob (s : State) : State :=
  if s.lanes.claim.isSome then s
  else match bestBay (fun b => -(s.arrivalOf b : Int)) s.readyBays with
    | none => s
    | some b => (s.modJob b fun j => { j with state := .claiming }).withClaim (some { bay := b, phase := .awaitingPower })

/-- R153, R156, R157: the selection, and then the claim in flight taken on. -/
def State.laneProgress (s : State) : State := s.selectJob.stepClaim

/-! ### Suspending and ending -/

/-- R16: the provisioned flag after a job of a kind ends with an outcome. -/
def provisionedAfter (kind : JobKind) (outcome : JobOutcome) (flag : Bool) : Bool :=
  match kind, outcome with
  | .identify, _ => flag
  | .image, .done | .update, .done => true
  | .image, _ | .update, _ | .wipe, _ => false

/-- R167 step 1: a job that ends gives up its lane, or abandons its claim. -/
def State.leaveLane (s : State) (b : Bay) (j : Job) : State :=
  match j.state, j.lane with
  | .connected, some x => s.giveUp x
  | .claiming, _ => if s.lanes.claim.any (·.bay == b) then s.abandonClaim else s
  | _, _ => s

/-- R167: a live job ended with an outcome; a slot with no live job is left. -/
def State.endJob (s : State) (b : Bay) (outcome : JobOutcome) : State :=
  match (s.bay b).slot with
  | none => s
  | some j =>
    if j.live then
      (s.leaveLane b j).modBay b fun r =>
        { r with
          slot := r.slot.map fun j => { j with state := .ended, outcome := some outcome, lane := none, unread := true }
          charge := { r.charge with provisioned := provisionedAfter j.kind outcome r.charge.provisioned } }
    else s

/-- R163: a CONNECTED job suspended, or, at its third suspension, ended ABORTED. -/
def State.suspendJob (s : State) (b : Bay) : State :=
  match (s.bay b).slot with
  | none => s
  | some j =>
    let t := (s.leaveLane b j).modJob b fun j =>
      { j with state := .suspended, lane := none, suspensions := j.suspensions + 1 }
    if j.suspensions + 1 < 3 then t else t.endJob b .aborted

/-- R152: the state a job enters on leaving QUEUED. -/
def State.afterQueued (s : State) (b : Bay) (kind : JobKind) : JobState :=
  if kind = .identify || s.levelMet b then .waitLane else .waitLevel

/-- A bay's job judged again by the fields it reads: its ending by removal or fault (R166), its leaving of
QUEUED and WAIT_LEVEL (R152), the return of a CLAIMING job that is no longer ready (R159), its suspension and
its return from SUSPENDED (R163). -/
def State.judgeJob (s : State) (b : Bay) : State :=
  let r := s.bay b
  match r.slot with
  | none => s
  | some j =>
    if !j.live then s
    else if !r.presence.value || r.charge.state.stopped then s.endJob b .aborted
    else match j.state with
      | .queued =>
        if r.charge.state.stageOn then s.modJob b fun j => { j with state := s.afterQueued b j.kind } else s
      | .waitLevel => if s.levelMet b then s.modJob b fun j => { j with state := .waitLane } else s
      | .claiming =>
        if s.ready b then s else (s.leaveLane b j).modJob b fun j => { j with state := .waitLane }
      | .connected =>
        if r.charge.state == .paused || r.charge.state == .retryWait || !s.powered b then s.suspendJob b else s
      | .suspended =>
        if s.powered b && r.charge.state.stageOn then s.modJob b fun j => { j with state := .waitLane } else s
      | .waitLane | .ended => s

/-- R47, R107, R141: a change in a bay's record told to the bid unit and the lane unit. R47 gives the two no order:
that the bid unit is told first is the model's choice (log entry 33). -/
def State.judgeBay (s : State) (b : Bay) : State := (s.judgeBid b).judgeJob b

/-- The last change of an event in a bay's record told to the units, and the lane unit gone on. -/
def State.afterBay (s : State) (b : Bay) : State := (s.judgeBay b).laneProgress

/-- A change in several bays' records told to the bid unit for every bay and then to the lane unit for every bay, in
ascending bay order. Neither R47 (a distribution, a sample, a fault) nor R126 (the third OPEN_ALL) gives the two units
an order: that every bid is judged before any job, which can decide which frame finds a free place in the transmit
queue, is the model's choice (log entry 33). -/
def State.judgeAll (s : State) : State := (s.forBays State.judgeBid).forBays State.judgeJob

/-- A change in several bays' records told to the units, and the lane unit gone on. -/
def State.afterAll (s : State) : State := s.judgeAll.laneProgress

/-- R47, R157: the end of a distribution: its allotments told to the units, and the claim in flight judged by its
bay's keep allotment. R157 and R163 give the two no order at one distribution: that every job is judged, its lane given up
and its LANE FREE offered, before a queued CLAIM is withdrawn, which can decide whether the FREE finds a place, is the
model's choice (log entry 38). -/
def State.afterDistribution (s : State) : State := s.judgeAll.judgeClaimPower.laneProgress

/-! ### Giving way to another station -/

/-- R160: the station's own use of a lane. -/
inductive LaneUse where
  | none | claimQueued (bay : Bay) | settling (bay : Bay) | connected (bay : Bay)
deriving DecidableEq, Repr

/-- R160: the station's own use of a lane, read from the claim in flight and the jobs. -/
def State.laneUse (s : State) (x : Lane) : LaneUse :=
  match allBays.find? fun b => (s.bay b).slot.any fun j => j.state == .connected && j.lane == some x with
  | some b => .connected b
  | none => match s.lanes.claim with
    | some ⟨b, .claimQueued y⟩ => if y = x then .claimQueued b else .none
    | some ⟨b, .settling y _⟩ => if y = x then .settling b else .none
    | _ => .none

/-- R160, R162: node `m` becomes the holder of a lane, and the station gives way on it: its queued CLAIM is
withdrawn, a claim picks again (R157, whatever the keep allotment), a CONNECTED job returns to WAIT_LANE; no LANE
FREE is queued, since the table names `m`. -/
def State.giveWay (s : State) (x : Lane) (m : Node) (bay : Option Nat) : State :=
  let t := s.nameHolder x m bay
  match s.laneUse x with
  | .none => t
  | .claimQueued b => t.withdrawClaim.pickLane b
  | .settling b => t.pickLane b
  | .connected b =>
    ((t.openCrosspoints x).withDrive x false).modJob b fun j => { j with state := .waitLane, lane := none }

/-- R160: an accepted LANE CLAIM for a lane from another node. -/
def State.hearClaim (s : State) (x : Lane) (m : Node) (bay : Nat) : State :=
  match s.laneUse x with
  | .none | .claimQueued _ => s.giveWay x m (some bay)
  | .settling _ | .connected _ => if m < s.startup.node then s.giveWay x m (some bay) else s

/-- R161: an accepted LANE FREE. -/
def State.hearFree (s : State) (x : Lane) (m : Node) : State :=
  if s.lanes.table[x].any (·.node == m) then s.withHolder x none else s

/-- R162: one lane of the lane set that an accepted REPORT from node `m` carries. -/
def State.hearLane (s : State) (m : Node) (x : Lane) (held : Bool) : State :=
  if held then
    match s.lanes.table[x] with
    | none => s.nameHolder x m none
    | some h =>
      if h.node = m then s
      else if h.node = s.startup.node then
        if m < s.startup.node then s.giveWay x m none else s
      else if m < h.node then s.nameHolder x m none else s
  else s.hearFree x m

/-- R162: the lane set of an accepted REPORT from node `m`, lane by lane. R162 gives the lanes of one set no order: that they
are taken in ascending order, and that a SETTLING claim that gives way picks at its own lane's turn, before the later lanes
of the set are written or cleared, is the model's choice (log entry 37). -/
def State.hearLaneSet (s : State) (m : Node) (lanes : Vector Bool 4) : State :=
  allLanes.foldl (fun t x => t.hearLane m x lanes[x]) s

/-- R162: node `m` is LOST: every entry that names it becomes free. -/
def State.freeLanesOf (s : State) (m : Node) : State := allLanes.foldl (fun t x => t.hearFree x m) s

end Sys2Proof.Machine
end

