-- ==== Sys2Proof/Machine/ChargeUnit.lean ====
section
/-! DEFINITION. The charge controller's and the protection unit's operations on a bay record: the entries into
the charge states (R33 to R46), the deciding of a fault (R69, R70), a bay sample (R27, R30, R36 to R40, R56,
R57, R64, R65, R68), the tier demands (R48 to R50) and the distribution of the applied ceiling (R51 to R55). The
state argument of an operation on a record is only read: for the settings in force and the present moment. -/

namespace Sys2Proof.Machine

/-- The value NO_READING of a connector result (R30). -/
def noReading : Nat := 65535

/-! ### Entries into charge states -/

/-- R62: the short filter count and the three runs become 0 and the blank end absent. -/
def Protection.disarm (p : Protection) : Protection :=
  { p with filterCount := 0, overload := 0, overvolt := 0, backfeed := 0, blankEnd := none }

/-- R62: the three runs become 0. -/
def Protection.clearRuns (p : Protection) : Protection := { p with overload := 0, overvolt := 0, backfeed := 0 }

/-- R68: a connector reading stored as the bay's connector result, the connector mark cleared. -/
def Protection.storeReading (p : Protection) (v : Nat) : Protection := { p with result := some v, mark := false }

/-- R42, R43, R45: the counts and runs of R38, R39 and R40 cleared. -/
def Charge.clearRuns (c : Charge) : Charge := { c with lowCount := 0, returnCount := 0, fullRun := none, highRun := none }

/-- R33: the limit field, and with it the stage current limit output. -/
def BayRecord.withLimit (r : BayRecord) (l : Nat) : BayRecord :=
  { r with charge := { r.charge with limit := l }, out := { r.out with stageLimit := l } }

/-- R31: a pending connector measurement ended without a reading: NO_READING is handed to the protection unit. -/
def BayRecord.endMeasure (r : BayRecord) : BayRecord :=
  if r.measure.isSome then { r with measure := none, prot := r.prot.storeReading noReading } else r

/-- R41: leaving MAINTAIN turns a level of 1000 into 990. -/
def BayRecord.leaveMaintain (r : BayRecord) : BayRecord :=
  if r.charge.state = .maintain ∧ r.charge.level = some 1000 then
    { r with charge := { r.charge with level := some 990 } }
  else r

/-- A move into a stage-off state: stage off, limit 0, counts, runs and detectors cleared, a pending
measurement ended (R31, R33, R42, R43, R45, R62). -/
def BayRecord.toOff (r : BayRecord) (st : ChargeState) : BayRecord :=
  let r := r.leaveMaintain.endMeasure
  { r with
    charge := { r.charge.clearRuns with state := st, limit := 0, detectTimer := none }
    out := { r.out with stageEnable := false, stageLimit := 0 }
    prot := r.prot.disarm }

/-- R34: a DETECT entry. -/
def BayRecord.toDetect (r : BayRecord) (check : Bool) : BayRecord :=
  let r := r.toOff .detect
  { r with
    charge := { r.charge with time := 0, exceeded := false, detectTimer := some 500 }
    prot := { r.prot with mark := r.prot.mark || check } }

/-- R29, R36, R62, R63: an entry into SOFTSTART from a stage-off state. -/
def BayRecord.toSoftstart (s : State) (r : BayRecord) : BayRecord :=
  { r with
    charge := { r.charge with state := .softstart, limit := 100, detectTimer := none }
    out := { r.out with stageEnable := true, stageLimit := 100 }
    prot := { r.prot.disarm with blankEnd := some (s.nowEdge + blankEdgesOf s.force), retryTimer := none }
    measure := if r.prot.mark && r.measure.isNone then some s.pacing.ticks else r.measure }

/-- R35, R45, R71: the end of DETECT or of RETRY_WAIT, by the allotted limit; its timer is stopped. -/
def BayRecord.toCharging (s : State) (r : BayRecord) : BayRecord :=
  let r := { r with prot := { r.prot with retryTimer := none } }
  if 100 ≤ r.charge.allotted then r.toSoftstart s else r.toOff .paused

/-- R36: BULK entry from SOFTSTART, or R39's return from TAPER. -/
def BayRecord.toBulk (r : BayRecord) : BayRecord :=
  { r with charge := { r.charge.clearRuns with state := .bulk } }.withLimit r.charge.allotted

/-- R31, R38, R40: TAPER entry from BULK, which ends a pending measurement, or from MAINTAIN, which lowers a
level of 1000. -/
def BayRecord.toTaper (r : BayRecord) : BayRecord :=
  let r := r.leaveMaintain.endMeasure
  { r with charge := { r.charge.clearRuns with state := .taper } }.withLimit r.charge.allotted

/-- R40, R73: MAINTAIN entry: level 1000, accumulator 0, the fault score lowered by 1. -/
def BayRecord.toMaintain (r : BayRecord) : BayRecord :=
  { r with
    charge := { r.charge.clearRuns with state := .maintain, level := some 1000, acc := 0 }
    prot := { r.prot with score := r.prot.score - 1 } }.withLimit r.charge.allotted

/-- R45: a fault cleared: DETECT with a tablet present, EMPTY without. -/
def BayRecord.toCleared (r : BayRecord) (check : Bool) : BayRecord :=
  if r.presence.value then r.toDetect check else r.toOff .empty

/-! ### Presence -/

/-- R43: the charge state after the tablet's removal. -/
def BayRecord.afterRemoval (r : BayRecord) : ChargeState :=
  match r.charge.state with
  | .disabled => .disabled
  | .quarantined => .quarantined
  | .faulted => if r.prot.latched then .faulted else .empty
  | .empty | .detect | .softstart | .bulk | .taper | .maintain | .paused | .retryWait => .empty

/-- R15, R43, R75: the tablet of a populated bay that is not DISABLED is removed. -/
def BayRecord.remove (r : BayRecord) : BayRecord :=
  let t := r.toOff r.afterRemoval
  { t with
    charge := { t.charge with level := none, acc := 0, time := 0, exceeded := false, detectTimer := none,
                              tag := none, departed := r.charge.tag, provisioned := false }
    prot := { t.prot with retryCount := 0, retryTimer := none } }

/-- R15: every other bay's departed tag that equals a bay's new departed tag made absent. -/
def State.clearDeparted (s : State) (b : Bay) (tag : Option Tag) : State :=
  s.mapBays fun c r =>
    if c ≠ b ∧ tag.isSome ∧ r.charge.departed = tag then { r with charge := { r.charge with departed := none } } else r

/-- R34, R44: the charge controller's and the protection unit's part of a presence that becomes present. -/
def BayRecord.dock (r : BayRecord) (check : Bool) : BayRecord :=
  if r.charge.state = .empty then r.toDetect check else r

/-! ### Deciding a fault -/

/-- R69 to R72, R74: a fault detected on a bay: the last-fault record, and under every policy but WARN the
score, the quarantine test and the outcome. -/
def BayRecord.decideFault (s : State) (cls : FaultClass) (value : Int) (r : BayRecord) : BayRecord :=
  let r := { r with prot := { r.prot.clearRuns with lastFault := some { cls := cls, uptime := s.pacing.uptime, value := value } } }
  match policyOf s.force cls with
  | .warn => r
  | p =>
    let score := min 15 (r.prot.score + 2)
    let count := if p = .retry then min 3 (r.prot.retryCount + 1) else r.prot.retryCount
    let r := { r with prot := { r.prot with score := score, retryCount := count } }
    if quarantineLimitOf s.force ≤ score then r.toOff .quarantined
    else if p = .retry && count ≤ 2 then
      let r := r.toOff .retryWait
      { r with prot := { r.prot with retryTimer := some (retryDelayOf s.force) } }
    else if p = .latch then
      let r := r.toOff .faulted
      { r with prot := { r.prot with latched := true } }
    else r.toOff .faulted

/-! ### A bay sample -/

/-- R27: the sample power in mW. -/
def samplePower (mV : Nat) (mA : Int) : Nat := if 0 < mA then mV * mA.toNat / 1000 else 0

/-- R27: the filtered power after a sample. -/
def BayRecord.filterSample (r : BayRecord) (mV : Nat) (mA : Int) : BayRecord :=
  { r with filtered := if r.out.stageEnable then (15 * r.filtered + samplePower mV mA) / 16 else 0 }

/-- R30: a connector reading from a sample. -/
def connectorReading (setpoint mV : Nat) (mA : Int) : Nat :=
  if mA < 200 then noReading else min 65534 ((setpoint - mV) * 1000 / mA.toNat)

/-- R30: whether a sample takes the pending measurement of its bay. -/
def BayRecord.takesReading (r : BayRecord) (passTick : Nat) : Bool :=
  (r.charge.state == .softstart || r.charge.state == .bulk) && r.measure.any (fun start => start + 200 ≤ passTick)

/-- R57: the step size of the level estimator. -/
def stepSize (p : Profile) : Nat := p.capacity * 36000000000

/-- R56, R57: the energy of a sample added to the accumulator, and the level stepped. -/
def Charge.addEnergy (c : Charge) (p : Profile) (mA : Int) (period : Nat) : Charge :=
  if c.state.stageOn && 0 < mA then
    let acc := min (2 ^ 64 - 1) (c.acc + p.voltage * min 3000 mA.toNat * period * p.efficiency)
    match c.level with
    | none => { c with acc := acc }
    | some l =>
      let cap := if c.state = .maintain then 1000 else 999
      { c with acc := acc % stepSize p, level := some (max l (min cap (l + acc / stepSize p))) }
  else c

/-- R36 to R40: the charge controller's tests on a sample. -/
def BayRecord.chargeTests (p : Profile) (passTick : Nat) (mA : Int) (r : BayRecord) : BayRecord :=
  let c := r.charge
  match c.state with
  | .softstart =>
    let l := min (c.limit + 100) c.allotted
    if l = c.allotted then r.toBulk else r.withLimit l
  | .bulk =>
    if 10 * mA < 9 * (c.limit : Int) then
      if 50 ≤ c.lowCount + 1 then r.toTaper else { r with charge := { c with lowCount := c.lowCount + 1 } }
    else { r with charge := { c with lowCount := 0 } }
  | .taper =>
    let count := if 98 * (c.limit : Int) ≤ 100 * mA then c.returnCount + 1 else 0
    let run := if mA < (p.fullCurrent : Int) then some (c.fullRun.getD passTick) else none
    if run.any (fun start => start + 60000 ≤ passTick) then r.toMaintain
    else if 50 ≤ count then r.toBulk
    else { r with charge := { c with returnCount := count, fullRun := run } }
  | .maintain =>
    let run := if 2 * (p.fullCurrent : Int) < mA then some (c.highRun.getD passTick) else none
    if run.any (fun start => start + 60000 ≤ passTick) then r.toTaper
    else { r with charge := { c with highRun := run } }
  | .disabled | .empty | .detect | .paused | .retryWait | .faulted | .quarantined => r

/-- A run at a sample: one more where its condition holds, and 0 where it does not (R64). -/
def runNext (n : Nat) (holds : Bool) : Nat := if holds then n + 1 else 0

/-- R68: the connector reading that a sample carries, if any, stored. -/
def BayRecord.takeReading (reading : Option Nat) (r : BayRecord) : BayRecord :=
  match reading with
  | some v => { r with prot := r.prot.storeReading v }
  | none => r

/-- R64: the three runs of an armed bay at a sample. -/
def BayRecord.countRuns (p : Profile) (mV : Nat) (mA : Int) (r : BayRecord) : BayRecord :=
  { r with prot := { r.prot with
      overload := runNext r.prot.overload ((r.notedLimit : Int) + 300 < mA)
      overvolt := runNext r.prot.overvolt (p.voltage + p.voltage / 10 < mV)
      backfeed := runNext r.prot.backfeed (mA < -100) } }

/-- R64, R65, R68: the protection unit's tests on a sample that may carry a connector reading: at most one
fault, the first in the order OVERVOLT, BACKFEED, OVERLOAD, CONNECTOR. -/
def BayRecord.faultTests (s : State) (p : Profile) (mV : Nat) (mA : Int) (reading : Option Nat) (r : BayRecord) :
    BayRecord :=
  let r := r.takeReading reading
  if r.armed then
    let r := r.countRuns p mV mA
    if 3 ≤ r.prot.overvolt then r.decideFault s .overvolt mV
    else if 3 ≤ r.prot.backfeed then r.decideFault s .backfeed mA
    else if 5 ≤ r.prot.overload then r.decideFault s .overload mA
    else match reading with
      | some v => if v ≠ noReading ∧ connectorLimitOf s.force < v then r.decideFault s .connector v else r
      | none => r
  else r

/-- R30: the connector reading that a sample hands to the protection unit, if it takes one. -/
def BayRecord.readingAt (p : Profile) (passTick mV : Nat) (mA : Int) (r : BayRecord) : Option Nat :=
  if r.takesReading passTick then some (connectorReading p.voltage mV mA) else none

/-- R27, R30, R56, R57: what a sample does before the charge controller's tests: the filtered power, the end of a
measurement that is taken, and the energy with the level's steps. -/
def BayRecord.meter (p : Profile) (pass : Pass) (mV : Nat) (mA : Int) (r : BayRecord) : BayRecord :=
  let t := r.filterSample mV mA
  { t with
    measure := if r.takesReading pass.tick then none else t.measure
    charge := t.charge.addEnergy p mA pass.period }

/-- R25, R47: a bay sample taken by the scanner's own functions, the charge controller and the protection unit, in that
order, which R25 leaves open and is the model's choice (log entry 9). Every change of level and of charge state is told
to the units as it is made, so that one which a later reader of the same sample takes back is told too; the lane unit
goes on once the sample has been taken. -/
def State.takeSample (s : State) (pass : Pass) (b : Bay) (mV : Nat) (mA : Int) : State :=
  let p := s.profile b
  let t := (s.modBay b (BayRecord.meter p pass mV mA)).judgeBay b
  let u := (t.modBay b (BayRecord.chargeTests p pass.tick mA)).judgeBay b
  (u.modBay b (BayRecord.faultTests s p mV mA ((s.bay b).readingAt p pass.tick mV mA))).afterBay b

/-! ### Tier demands -/

/-- R48, R49: a bay's keep demand, from the record as it stands. DESIGN CHOICE (log entry 42): R153 and R167 have the awake
power of a job that enters CLAIMING or ends counted, or no longer counted, from the next report-period expiry, and R79 has
the maintain power of a bay that a fault takes out of MAINTAIN leave the keep demand from that expiry; the model lets a
distribution before it see each of these changes already, as R49 and R51 have it. -/
def State.keepDemand (s : State) (b : Bay) : Nat :=
  let r := s.bay b
  (if r.charge.state = .maintain then (s.profile b).maintainPower else 0) +
  (match r.jobState with
    | some .claiming | some .connected | some .suspended => (s.profile b).awakePower
    | _ => 0)

/-- R49: a bay's charging demand. -/
def State.chargingDemand (s : State) (b : Bay) : Nat :=
  let r := s.bay b
  if r.charge.state = .taper then min (r.filtered / 1000 + 2) (s.profile b).maxPower
  else if r.charge.state.demands then (s.profile b).maxPower
  else 0

/-- R49: the tier of a bay's charging demand: urgent where the level is absent or below the threshold. -/
def State.urgentBay (s : State) (b : Bay) : Bool :=
  (s.bay b).charge.level.all fun l => l < urgentThresholdOf s.force * 10

/-- R49: a bay's urgent demand. -/
def State.urgentDemand (s : State) (b : Bay) : Nat :=
  if s.urgentBay b then s.chargingDemand b - s.keepDemand b else 0

/-- R49: a bay's normal demand. -/
def State.normalDemand (s : State) (b : Bay) : Nat :=
  if s.urgentBay b then 0 else s.chargingDemand b - s.keepDemand b

/-! ### Distribution -/

/-- The largest level from `n` down whose total is within `a`; 0 where none is (R53, R89). -/
def waterLevel (total : Nat → Nat) (a : Nat) : Nat → Nat
  | 0 => 0
  | n + 1 => if total (n + 1) ≤ a then n + 1 else waterLevel total a n

/-- R52: a bay's keep allotment from the ceiling. -/
def keepAllotment (demand : Bay → Nat) (ceiling : Nat) (b : Bay) : Nat :=
  if sumBays demand ≤ ceiling then demand b else demand b * ceiling / sumBays demand

/-- R52: what the keep tier passes on. -/
def keepRemainder (demand : Bay → Nat) (ceiling : Nat) : Nat :=
  if sumBays demand ≤ ceiling then ceiling - sumBays demand else 0

/-- R53: the level of a tier's water-fill; none where every demand is met. -/
def tierLevel (demand : Bay → Nat) (remainder : Nat) : Option Nat :=
  if sumBays demand ≤ remainder then none
  else some (waterLevel (fun l => sumBays fun b => min (demand b) l) remainder 1023)

/-- R53: a bay's allotment in the urgent or the normal tier, from the tier's level. -/
def tierAllotment (demand : Bay → Nat) (level : Option Nat) (b : Bay) : Nat :=
  match level with
  | none => demand b
  | some l => min (demand b) l

/-- R54: the allotted limit in mA of a total allotment in W. -/
def allottedLimit (p : Profile) (watts : Nat) : Nat :=
  min (min (watts * 1000000 / p.voltage / 10 * 10) 3000) (p.maxPower * 1000000 / p.voltage / 10 * 10)

/-- R37 to R42, R55: the effect of a new allotted limit by charge state. -/
def BayRecord.applyLimit (s : State) (r : BayRecord) : BayRecord :=
  let l := r.charge.allotted
  match r.charge.state with
  | .softstart => if l < 100 then r.toOff .paused else r.withLimit (min r.charge.limit l)
  | .bulk | .taper | .maintain => if l < 100 then r.toOff .paused else r.withLimit l
  | .paused => if 200 ≤ l then r.toSoftstart s else r
  | .disabled | .empty | .detect | .retryWait | .faulted | .quarantined => r

/-- R51, R55: the allotments of a bay written, its allotted limit computed and applied. -/
def BayRecord.allot (s : State) (p : Profile) (keep urgent normal : Nat) (r : BayRecord) : BayRecord :=
  { r with charge := { r.charge with keep := keep, urgent := urgent, normal := normal,
                                     allotted := allottedLimit p (keep + urgent + normal) } }.applyLimit s

/-- R51 to R55: the applied ceiling divided among the bays, before the lane and bid units are told. The demands are those
of the record at this event, the awake power of R153 and R167 and the maintain power of R79 with them, which is the model's
choice (log entry 42). -/
def State.divide (s : State) : State :=
  let keep := keepAllotment s.keepDemand s.share.applied
  let left := keepRemainder s.keepDemand s.share.applied
  let urgent := tierAllotment s.urgentDemand (tierLevel s.urgentDemand left)
  let rest := left - sumBays urgent
  let normal := tierAllotment s.normalDemand (tierLevel s.normalDemand rest)
  s.mapBays fun b => BayRecord.allot s (s.profile b) (keep b) (urgent b) (normal b)

/-- R51: a distribution; it is run in RUN only. -/
def State.distribute (s : State) : State := if s.running then s.divide.afterDistribution else s

end Sys2Proof.Machine
end

