-- ==== Sys2Proof/Machine/ShareEngine.lean ====
section
/-! DEFINITION. The share engine's operations: the peer table (R83 to R87), the share computation (R88 to R90),
the ceiling chain (R91 to R97), the feed rail monitor (R98 to R100) and the report-period operation (R101, R102). -/

namespace Sys2Proof.Machine

/-! ### The peer table -/

/-- The peer table index of a node number 1..15. -/
def nodeIndex (m : Node) : Fin 15 := ⟨m.toNat - 1, by have := m.isLt; omega⟩

/-- The node number of a peer table index. -/
def indexNode (i : Fin 15) : Node := BitVec.ofNat 4 (i.val + 1)

/-- The fifteen peer table indices in node order. -/
def allPeers : List (Fin 15) := [0, 1, 2, 3, 4, 5, 6, 7, 8, 9, 10, 11, 12, 13, 14]

/-- The peer table entry of a node. -/
def State.peer (s : State) (i : Fin 15) : Peer := s.share.peers[i]

/-- The state with the share engine replaced. -/
def State.withShare (s : State) (h : Share) : State := { s with share := h }

/-- A peer table entry changed. -/
def State.modPeer (s : State) (i : Fin 15) (f : Peer → Peer) : State :=
  s.withShare { s.share with peers := s.share.peers.set i (f (s.peer i)) }

/-- The own entry's index. -/
def State.ownIndex (s : State) : Fin 15 := nodeIndex s.startup.node

/-- A sum over the peer table. -/
def sumPeers (f : Fin 15 → Nat) : Nat := (allPeers.map f).sum

/-- R85: an accepted REPORT taken into a peer table entry. -/
def Peer.hear (p : Peer) (f : ReportFields) : Peer :=
  { state := .live, keep := f.keep, urgent := f.urgent, urgentN := f.urgentN, normal := f.normal,
    normalN := f.normalN, ceiling := f.ceiling, droop := f.droop, feedClass := f.feedClass, lastSeq := f.seq,
    missed := match p.state with
      | .live | .silent => min 255 (p.missed + (f.seq + 15 - p.lastSeq % 16) % 16)
      | .absent | .lost => p.missed
    age := 0, due := false }

/-- R86: a peer entry at a tick: its time since last report, and whether it stands at or above its threshold. -/
def Peer.tick (silence hold : Nat) (p : Peer) : Peer :=
  match p.state with
  | .absent => p
  | .live => let age := min 65535 (p.age + 1); { p with age := age, due := silence ≤ age }
  | .silent => let age := min 65535 (p.age + 1); { p with age := age, due := silence + hold ≤ age }
  | .lost => { p with age := min 65535 (p.age + 1), due := false }

/-! ### The share computation -/

/-- R87: what a SILENT or LOST entry commits in available power. -/
def Peer.commitment (orphan : Nat) (p : Peer) : Nat :=
  match p.state with
  | .silent => p.ceiling
  | .lost => min p.ceiling orphan
  | .absent | .live => 0

/-- R87, R91: what an entry other than the own one commits in headroom. -/
def Peer.headroomUse (orphan : Nat) (p : Peer) : Nat :=
  match p.state with
  | .live | .silent => p.ceiling
  | .lost => min p.ceiling orphan
  | .absent => 0

/-- The sum over the LIVE entries of the peer table (R88 to R90). -/
def State.liveSum (s : State) (f : Peer → Nat) : Nat :=
  sumPeers fun i => if (s.peer i).state = .live then f (s.peer i) else 0

/-- R82: the effective budget: the least of the own class budget and those of the LIVE entries' classes. -/
def State.effectiveBudget (s : State) : Nat :=
  allPeers.foldl (fun b i => if (s.peer i).state = .live then min b (classBudget (s.peer i).feedClass) else b)
    (classBudget s.startup.feedClass)

/-- R88: the available power A0. -/
def State.availablePower (s : State) (budget : Nat) : Nat :=
  budget - reserveOf s.force - sumPeers fun i => (s.peer i).commitment (orphanOf s.force)

/-- R88: a station's keep grant. -/
def keepGrant (sumK a k : Nat) : Nat := if sumK ≤ a then k else k * a / sumK

/-- R89, R90: a station's amount in a tier at a level per bay. -/
def tierAmount (demand count l : Nat) : Nat := min demand (count * l)

/-- R90: the station's own share of a budget. -/
def State.ownShare (s : State) (budget : Nat) : Nat :=
  let own := s.peer s.ownIndex
  let a0 := s.availablePower budget
  let sumK := s.liveSum (·.keep)
  let a1 := if sumK ≤ a0 then a0 - sumK else 0
  let urgentSum := fun l => s.liveSum fun p => tierAmount p.urgent p.urgentN l
  let lu := waterLevel urgentSum a1 1023
  let a2 := a1 - urgentSum lu
  let normalSum := fun l => s.liveSum fun p => tierAmount p.normal p.normalN l
  let ln := waterLevel normalSum a2 1023
  keepGrant sumK a0 own.keep + tierAmount own.urgent own.urgentN lu + tierAmount own.normal own.normalN ln

/-! ### The ceiling chain -/

/-- R91: the headroom H. -/
def State.headroom (s : State) (budget : Nat) : Nat :=
  budget - reserveOf s.force -
    sumPeers fun i => if i = s.ownIndex then 0 else (s.peer i).headroomUse (orphanOf s.force)

/-- R91: the announced ceiling of an own REPORT whose transmission has begun and not completed. -/
def State.sendingCeiling (s : State) : Option Nat :=
  s.sendingEntry.bind fun e => match e.frame with
    | .report r => some r.ceiling
    | _ => none

/-- R91: the ramp base. -/
def State.rampBase (s : State) : Nat :=
  match s.sendingCeiling with
  | some x => min s.share.xt x
  | none => s.share.xt

/-- R92: the step: 0 while the station or a LIVE peer reports droop. -/
def State.rampStep (s : State) : Nat :=
  if s.share.droop || allPeers.any fun i => i != s.ownIndex && (s.peer i).state == .live && (s.peer i).droop then 0
  else rampStepOf s.force

/-- R92: the announced ceiling Y of a target. -/
def announced (target base step : Nat) : Nat := if target ≤ base then target else min target (base + step)

/-- R93: the thermal factor of the latest temperature sample. -/
def thermalFactor (img : Image) (temps : Option (Int × Int)) : Nat :=
  match temps with
  | none => 0
  | some (a, b) =>
    let t := max a b
    let start : Int := derateStartOf img
    let cutoff : Int := cutoffOf img
    if t ≤ start then 100 else if cutoff ≤ t then 0 else (100 * (cutoff - t) / (cutoff - start)).toNat

/-- R94, R99: a ceiling scaled by the thermal and the droop factor. -/
def scaled (y thermal droopFactor : Nat) : Nat := y * thermal / 100 * droopFactor / 100

/-- R95, R96: the applied ceiling lowered to a value, if it is lower; a lowering discards every pending raise. -/
def State.lowerCeiling (s : State) (v : Nat) : State :=
  if v < s.share.applied then (s.withShare { s.share with applied := v }).discardRaises else s

/-- R95, R96, R103: the applied ceiling made a value, which may be a rise or a lowering. -/
def State.moveCeiling (s : State) (v : Nat) : State :=
  if s.share.applied < v then s.withShare { s.share with applied := v } else s.lowerCeiling v

/-- R51: a distribution, if the applied ceiling is no longer what it was. -/
def State.distributeIfChanged (s : State) (before : Nat) : State :=
  if s.share.applied = before then s else s.distribute

/-! ### The feed rail monitor -/

/-- R99: a warn event (limit 50) or a trip event (limit 0). -/
def State.droopEvent (s : State) (limit : Nat) : State :=
  let h := { s.share with droopFactor := min s.share.droopFactor limit, droop := true }
  (((s.withShare h).lowerCeiling (scaled h.lastY h.thermal h.droopFactor)).discardRaises).distributeIfChanged h.applied

/-- R98: the warn and trip runs after a rail sample. -/
def Share.countRail (h : Share) (rail : Nat) : Share :=
  { h with
    warnRun := if rail < 22000 then min 5 (h.warnRun + 1) else 0
    tripRun := if rail < 20500 then min 2 (h.tripRun + 1) else 0 }

/-- R98, R99: a rail sample taken in RUN. A sample that completes both runs makes a warn and a trip event, and R99
gives them no order: the warn event first, each with a distribution of its own, is the model's choice (log
entry 34). -/
def State.railSample (s : State) (rail : Nat) : State :=
  let t := s.withShare (s.share.countRail rail)
  let t := if s.share.warnRun < 5 ∧ t.share.warnRun = 5 then t.droopEvent 50 else t
  if s.share.tripRun < 2 ∧ t.share.tripRun = 2 then t.droopEvent 0 else t

/-- R100: the rail entry of the result table holds a code of 2300 or more. -/
def State.railRecovered (s : State) : Bool :=
  match s.scanner.results[16] with
  | some code => 2300 ≤ code.toNat
  | none => false

/-- R100: the droop factor after the rail recovery test. -/
def State.recoveredFactor (s : State) : Nat :=
  if s.railRecovered then min 100 (s.share.droopFactor + 10) else s.share.droopFactor

/-- R100: the rail recovery test. -/
def State.recoveryTest (s : State) : State :=
  s.withShare { s.share with
    droopFactor := s.recoveredFactor, droop := if s.recoveredFactor = 100 then false else s.share.droop }

/-! ### The report-period operation -/

/-- R50, R84: the own entry written from the charge controller's five figures. -/
def State.writeOwnEntry (s : State) : State :=
  s.modPeer s.ownIndex fun _ =>
    { state := .live, keep := sumBays s.keepDemand, urgent := sumBays s.urgentDemand,
      urgentN := countBays fun b => 0 < s.urgentDemand b, normal := sumBays s.normalDemand,
      normalN := countBays fun b => 0 < s.normalDemand b, ceiling := s.share.xt, droop := s.share.droop,
      feedClass := s.startup.feedClass, lastSeq := s.share.sentSeq, missed := 0, age := 0, due := false }

/-- R102: the REPORT of an expiry, with the pending raise of R95. -/
def State.ownReport (s : State) (y : Nat) (raise : Option Nat) : TxFrame :=
  let own := s.peer s.ownIndex
  .report
    { keep := own.keep, urgent := own.urgent, urgentN := own.urgentN, normal := own.normal, normalN := own.normalN,
      ceiling := y, lanes := s.laneSet, droop := s.share.droop, feedClass := s.startup.feedClass, seq := s.share.seq,
      raise := raise }

/-- Stages 3 to 5 of R101: B, the share, the thermal factor and Y. -/
def State.computeShares (s : State) : State :=
  let budget := s.effectiveBudget
  let share := s.ownShare budget
  let target := min share (s.headroom budget)
  s.withShare { s.share with
    budget := budget, shareSelf := share, thermal := thermalFactor s.force s.share.temps,
    lastY := announced target s.rampBase s.rampStep }

/-- R94: C_new. -/
def State.newCeiling (s : State) : Nat :=
  let c := scaled s.share.lastY s.share.thermal s.share.droopFactor
  if s.bus.muted then min c (min (orphanOf s.force) s.share.xt) else c

/-- Stages 6 and 7 of R101: the REPORT queued with the raise it holds pending, and C_new applied (R95). Where a full queue
refuses the offer while an older own REPORT is in an attempt, the new raise is not made and the older REPORT keeps its own:
R95 and R104 say that no raise is pending, and R96 does not name a refused offer among its discards; that the older raise
stands is the model's choice (log entry 41). -/
def State.announce (s : State) : State :=
  let c := s.newCeiling
  let raise := if s.share.applied < c then some c else none
  let t := s.offerOrDrop (s.ownReport s.share.lastY raise)
  if s.bus.muted then t.moveCeiling c else t.lowerCeiling c

/-- R101: the report-period operation. -/
def State.reportPeriod (s : State) : State :=
  let t := s.withShare { s.share with reportTimer := some (reportPeriodOf s.force) }
  t.recoveryTest.writeOwnEntry.computeShares.announce.distribute

end Sys2Proof.Machine
end

