-- ==== Sys2Proof/Machine/CustodyUnit.lean ====
section
/-! DEFINITION. The custody unit's operations: grants (R111), the door's opening and closing (R112, R113, R116),
presence seen by the lock (R117), the first lock state after a reset (R109), and the open-all confirmation
(R125, R126). -/

namespace Sys2Proof.Machine

/-- Note 6 of R110: a bay made SECURED: grant, baseline and removal note absent, timers stopped, latch
de-energized (R12). -/
def BayRecord.secure (r : BayRecord) : BayRecord :=
  { r with
    lock := { state := .secured, grant := none, baseline := none, window := none, ajar := none, note := none }
    out := { r.out with latch := false } }

/-- R111: a grant accepted: GRANTED, the grant written, the latch energized and the window started. -/
def BayRecord.granted (r : BayRecord) (window : Nat) (g : Grant) : BayRecord :=
  { r with
    lock := { r.lock with state := .granted, grant := some g, window := some window }
    out := { r.out with latch := true } }

/-- A record that carries a bay's grant and its tag and level as they stand (R114, R119, R127). -/
def State.recordGrant (s : State) (b : Bay) (kind : RecordKind) : State :=
  let r := s.bay b
  s.addRecord (bayNumber b) kind (r.lock.grant.map (·.requester)) (r.lock.grant.map (·.request)) r.charge.tag
    r.charge.level

/-- R110, R111: a grant offered to a bay: accepted in SECURED and GRANTED. -/
def State.grantBay (s : State) (b : Bay) (g : Grant) : State :=
  if (s.bay b).lock.state.doorOpen then s else s.modBay b fun r => r.granted (grantWindowOf s.force) g

/-- R114, R119, R127: an unused grant ended: the record, and the bay SECURED. -/
def State.endGrant (s : State) (b : Bay) (kind : RecordKind) : State :=
  (s.recordGrant b kind).modBay b BayRecord.secure

/-- R112: the lock of a GRANTED bay whose door opens. -/
def BayRecord.openGranted (r : BayRecord) (ajar : Nat) : BayRecord :=
  { r with
    lock := { r.lock with state := .opened, baseline := some r.presence.value, window := none, ajar := some ajar }
    out := { r.out with latch := false } }

/-- R113: the lock of a SECURED bay whose door opens. -/
def BayRecord.openForced (r : BayRecord) : BayRecord :=
  { r with lock := { r.lock with state := .forced, baseline := some r.presence.value } }

/-- R112, R113: a bay's door opens. -/
def State.doorOpens (s : State) (b : Bay) : State :=
  let r := s.bay b
  match r.lock.state with
  | .granted => s.modBay b fun r => r.openGranted (ajarTimeOf s.force)
  | .secured =>
    (s.addRecord (bayNumber b) .forced none none r.charge.tag r.charge.level).modBay b BayRecord.openForced
  | .opened | .ajar | .forced => s

/-- R116: the kind of the custody record at a close. -/
def custodyKind (baseline present : Bool) : RecordKind :=
  match baseline, present with
  | true, false => .dispensed
  | false, true => .returned
  | true, true | false, false => .opened

/-- R116: the door of an OPEN, AJAR or FORCED bay closes: the custody record, and the bay SECURED. -/
def State.doorCloses (s : State) (b : Bay) : State :=
  let r := s.bay b
  if r.lock.state.doorOpen then
    let kind := custodyKind (r.lock.baseline.getD false) r.presence.value
    let tag := if kind = .dispensed then r.lock.note.bind (·.tag) else r.charge.tag
    let level := if kind = .dispensed then r.lock.note.bind (·.level) else r.charge.level
    (s.addRecord (bayNumber b) kind (r.lock.grant.map (·.requester)) (r.lock.grant.map (·.request)) tag level).modBay b
      BayRecord.secure
  else s

/-- R117: a presence event seen by the lock; the tag and level are those the event carries. -/
def State.presenceAtLock (s : State) (b : Bay) (present : Bool) (tag : Option Tag) (level : Option Nat) : State :=
  if (s.bay b).lock.state.doorOpen then
    if present then s
    else s.modBay b fun r => { r with lock := { r.lock with note := some { tag := tag, level := level } } }
  else if present then s.addRecord (bayNumber b) .anomaly none none none none
  else s.addRecord (bayNumber b) .anomaly none none tag level

/-- R109: a bay's lock state set from the first debounced door value. -/
def State.firstLock (s : State) (b : Bay) : State :=
  if (s.bay b).door.value then
    (s.addRecord (bayNumber b) .openAtStart none none none none).modBay b fun r =>
      { r.secure with
        lock := { state := .opened, grant := none, baseline := some r.presence.value, window := none,
                  ajar := some (ajarTimeOf s.force), note := none } }
  else s.modBay b BayRecord.secure

/-! ### The open-all confirmation -/

/-- The confirmation replaced. -/
def State.withConfirmation (s : State) (source : Option Node) (count : Nat) : State :=
  { s with custody := { s.custody with allSource := source, allCount := count } }

/-- R126: every populated SECURED or GRANTED bay granted under OPEN_ALL. -/
def State.grantAll (s : State) (requester : Node) (request : ReqNo) : State :=
  (s.forBays fun t b =>
    if (s.bay b).populated then t.grantBay b { reason := .openAll, requester := requester, request := request } else t).afterAll

/-- R125: a request other than an OPEN_ALL from a SERVICE node acts on the confirmation. -/
def State.confirmOther (s : State) (k : RequestKind) (src : Node) : State :=
  if k ≠ .openAll ∧ s.custody.allSource = some src then s.withConfirmation none 0
  else if k = .restart ∧ s.authorized src .service then s.withConfirmation none 0
  else s

/-- R125, R126: the confirmation at the taking of a request in RUN; the third OPEN_ALL of a run grants. -/
def State.confirm (s : State) (k : RequestKind) (src : Node) (request : ReqNo) : State :=
  if k = .openAll ∧ s.authorized src .service then
    if s.custody.allSource = some src ∧ 0 < s.custody.allCount then
      if s.custody.allCount = 2 then (s.withConfirmation (some src) 3).grantAll src request
      else s.withConfirmation (some src) (min 3 (s.custody.allCount + 1))
    else s.withConfirmation (some src) 1
  else s.confirmOther k src

end Sys2Proof.Machine
end

