-- ==== Sys2Proof/Machine/BayCommands.lean ====
section
/-! DEFINITION. The commands of a bay's own timers and detectors: SHORT_DETECTED, DETECT_TIMER_EXPIRY,
RETRY_DELAY_EXPIRY, CHARGE_TIME_EXCEEDED, GRANT_WINDOW_EXPIRY, AJAR_TIMER_EXPIRY (R35, R45, R46, R63, R66, R71,
R114, R115). -/

namespace Sys2Proof.Machine

/-- R63: the run of edges above 3800 mA at an edge: `high` counts the consecutive high edges up to and including it; a
run that reaches back to the latest tick goes on from the count held there (log entry 6). -/
def State.shortRun (s : State) (b : Bay) (edge high : Nat) : Nat :=
  if edge ≤ high then (s.bay b).prot.filterCount + edge else high

/-- R63: whether SHORT is detected at an edge: the run is as long as the filter time, and that many edges have been
judged since the blank end. -/
def State.shortDue (s : State) (b : Bay) (edge high : Nat) : Bool :=
  s.running && (s.bay b).armed && s.pacing.prescaler ≤ edge && filterEdgesOf s.force ≤ s.shortRun b edge high &&
  (s.bay b).prot.blankEnd.any fun blank => blank + filterEdgesOf s.force ≤ s.pacing.ticks * 8000 + edge + 1

/-- SHORT_DETECTED (R63). -/
def execShortDetected (b : Bay) (edge high : Nat) (s : State) : Host.Outcome State Fault Refusal :=
  .next (s.when (s.shortDue b edge high) fun s =>
    let t := s.atEdge edge
    (t.modBay b (BayRecord.decideFault t .short 3800)).afterBay b)

/-- DETECT_TIMER_EXPIRY (R35). -/
def execDetectTimerExpiry (b : Bay) (s : State) : Host.Outcome State Fault Refusal :=
  .next (s.when ((s.bay b).charge.state == .detect && (s.bay b).charge.detectTimer.due) fun s =>
    (s.modBay b (BayRecord.toCharging s)).afterBay b)

/-- RETRY_DELAY_EXPIRY (R71). -/
def execRetryDelayExpiry (b : Bay) (s : State) : Host.Outcome State Fault Refusal :=
  .next (s.when ((s.bay b).charge.state == .retryWait && (s.bay b).prot.retryTimer.due) fun s =>
    (s.modBay b (BayRecord.toCharging s)).afterBay b)

/-- R46: the charge time stands above the profile's maximum and the event of this charging period has not been
handed on. Where the bay leaves SOFTSTART, BULK and TAPER otherwise than by removal before the event is taken, the event is
withheld and stays due for the next of these states: R46 orders only the removal, and this is the model's choice (log
entry 40). -/
def State.chargeTimeDue (s : State) (b : Bay) : Bool :=
  let c := (s.bay b).charge
  c.state.timeCounts && !c.exceeded && (s.profile b).maxChargeTime * 60000 < c.time

/-- CHARGE_TIME_EXCEEDED (R46, R66). -/
def execChargeTimeExceeded (b : Bay) (s : State) : Host.Outcome State Fault Refusal :=
  .next (s.when (s.chargeTimeDue b) fun s =>
    (s.modBay b fun r =>
      { r with charge := { r.charge with exceeded := true } }.decideFault s .noTaper (r.charge.time / 60000 : Nat)).afterBay b)

/-- GRANT_WINDOW_EXPIRY (R114). -/
def execGrantWindowExpiry (b : Bay) (s : State) : Host.Outcome State Fault Refusal :=
  .next (s.when ((s.bay b).lock.state == .granted && (s.bay b).lock.window.due) fun s =>
    (s.endGrant b .lapsed).afterBay b)

/-- AJAR_TIMER_EXPIRY (R115). -/
def execAjarTimerExpiry (b : Bay) (s : State) : Host.Outcome State Fault Refusal :=
  .next (s.when ((s.bay b).lock.state == .opened && (s.bay b).lock.ajar.due) fun s =>
    (s.modBay b fun r => { r with lock := { r.lock with state := .ajar, ajar := none } }).afterBay b)

end Sys2Proof.Machine
end

