-- ==== Sys2Proof/Machine/PacingCommands.lean ====
section
/-! DEFINITION. The commands of the pacing timers, the debouncers and the measurement scanner: TICK,
UPTIME_SECOND, FIRST_TICK_AFTER_RESET, PRESENCE_CHANGE, DOOR_CHANGE, SCAN_PASS_START and CONVERSION_END (R8 to
R10, R15, R17 to R21, R24 to R27, R43, R44, R46, R63, R86, R109, R112 to R117, R164). -/

namespace Sys2Proof.Machine

/-! ### Debouncers -/

/-- R8: the debounce time of a presence switch, in ms. -/
def presenceTime : Nat := 50

/-- R8: the debounce time of a door sensor, in ms. -/
def doorTime : Nat := 20

/-- R8: a debouncer at a tick. A count at the debounce time is a change that is due; it stands until the change
is taken by PRESENCE_CHANGE or DOOR_CHANGE (log entry 2). -/
def Debouncer.sample (limit : Nat) (raw : Bool) (d : Debouncer) : Debouncer :=
  if limit ≤ d.count then d
  else if raw = d.value then { d with count := 0 }
  else { d with count := d.count + 1 }

/-- R8: a debounced change taken. -/
def Debouncer.flip (d : Debouncer) : Debouncer := { value := !d.value, count := 0 }

/-- Whether a debouncer's change is due. -/
def Debouncer.changed (limit : Nat) (d : Debouncer) : Bool := limit ≤ d.count

/-! ### TICK -/

/-- R63: the short filter count at a tick's clock edge, from the run of edges at which the comparator showed a
short: no edge before the blank end is judged. -/
def BayRecord.filterAt (filterEdges edge run : Nat) (r : BayRecord) : Nat :=
  match r.prot.blankEnd with
  | none => 0
  | some blankEnd => if r.armed then min filterEdges (min run (edge + 1 - blankEnd)) else 0

/-- R46: the charge time at a tick. -/
def Charge.tickTime (c : Charge) : Nat := if c.state.timeCounts then min 4294967295 (c.time + 1) else c.time

/-- R164: a job at a tick. -/
def Job.tick (j : Job) : Job := if j.live then { j with elapsed := min (j.timeLimit * 60000) (j.elapsed + 1) } else j

/-- R8, R18, R46, R63, R164: a bay's debouncers, timers and counts at a tick. -/
def BayRecord.tick (debounce : Bool) (filterEdges edge : Nat) (inputs : TickInputs) (b : Bay) (r : BayRecord) : BayRecord :=
  { r with
    presence := if debounce then r.presence.sample presenceTime (inputs.presence.getLsbD b) else r.presence
    door := if debounce then r.door.sample doorTime (inputs.doorOpen.getLsbD b) else r.door
    charge := { r.charge with time := r.charge.tickTime, detectTimer := r.charge.detectTimer.tick }
    lock := { r.lock with window := r.lock.window.tick, ajar := r.lock.ajar.tick }
    prot := { r.prot with
      filterCount := r.filterAt filterEdges edge inputs.shortRun[b]
      retryTimer := r.prot.retryTimer.tick }
    slot := r.slot.map Job.tick }

/-- R18: the settle timer of the claim in flight at a tick. -/
def Claim.tick (c : Claim) : Claim :=
  match c.phase with
  | .settling x left => { c with phase := .settling x (left - 1) }
  | .awaitingPower | .awaitingLane | .claimQueued _ => c

/-- R17: the pacing timers at a tick. The tick count beneath the uptime stands at 1000 until UPTIME_SECOND is
taken (log entry 2). -/
def Pacing.tick (p : Pacing) : Pacing :=
  { p with
    ticks := p.ticks + 1
    prescaler := 0
    subTicks := min 1000 (p.subTicks + 1)
    firstTick := if p.firstTick = .awaited then .due else p.firstTick }

/-- R86: the peer table at a tick; the own entry does not age. -/
def State.tickPeers (s : State) : Vector Peer 15 :=
  Vector.ofFn fun i =>
    if i = s.ownIndex then s.peer i else (s.peer i).tick (silenceTimeOf s.force) (holdTimeOf s.force)

/-- R17, R18: everything that a tick moves. -/
def State.tick (s : State) (inputs : TickInputs) : State :=
  let t := s.mapBays
    (BayRecord.tick (s.pacing.firstTick == .taken) (filterEdgesOf s.force) ((s.pacing.ticks + 1) * 8000) inputs)
  { t with
    pacing := s.pacing.tick
    scanner := { s.scanner with divider := min (scanPeriodOf s.force) (s.scanner.divider + 1) }
    share := { s.share with peers := s.tickPeers, reportTimer := s.share.reportTimer.tick }
    bids := s.bids.map fun e => { e with window := e.window.tick }
    lanes := { s.lanes with claim := s.lanes.claim.map Claim.tick }
    handler := { s.handler with interval := s.handler.interval.tick, summary := s.handler.summary.tick }
    startup := { s.startup with firstFrame := s.startup.firstFrame.tick, close := s.startup.close.tick }
    inputs := { s.inputs with presence := inputs.presence, doorOpen := inputs.doorOpen } }

/-- TICK (R17): a tick of the 1 ms reference. No tick occurs while a reset lasts. -/
def execTick (inputs : TickInputs) (s : State) : Host.Outcome State Fault Refusal :=
  .next (s.when (s.startup.phase != .resetting) fun s => s.tick inputs)

/-- UPTIME_SECOND (R19): the tick count beneath the uptime reaches 1000. -/
def execUptimeSecond (s : State) : Host.Outcome State Fault Refusal :=
  .next (s.when (s.startup.phase != .resetting && s.pacing.subTicks == 1000) fun s =>
    { s with pacing := { s.pacing with subTicks := 0, uptime := min 4294967295 (s.pacing.uptime + 1) } })

/-! ### FIRST_TICK_AFTER_RESET -/

/-- R9: the first debounced values of a bay. -/
def BayRecord.firstValues (inputs : Inputs) (b : Bay) (r : BayRecord) : BayRecord :=
  { r with
    presence := { value := inputs.presence.getLsbD b, count := 0 }
    door := { value := inputs.doorOpen.getLsbD b, count := 0 } }

/-- R10: whether a bay's change events are handed on: in CONFIG for every bay, in RUN for a populated one. -/
def State.handsOn (s : State) (b : Bay) : Bool := s.awake && (s.startup.phase == .config || (s.bay b).populated)

/-- R109: a bay's lock set from its first door value. In RUN, which R3 has found no first presence value for, a present
tablet is docked (log entry 23). -/
def State.firstEvent (s : State) (b : Bay) : State :=
  let t := s.firstLock b
  if t.running && (t.bay b).presence.value then t.modBay b fun r => r.dock (checkAtDockingOf t.force) else t

/-- R9, R109: the first tick after a reset. With a valid node number each bay's lock is set from its door; an
unpopulated bay, which only an entry into RUN before this tick can leave, stays fixed SECURED (R3). -/
def State.takeFirstTick (s : State) : State :=
  let t := { s with pacing := { s.pacing with firstTick := .taken } }.mapBays (BayRecord.firstValues s.inputs)
  if s.awake then (t.forBays fun t b => if t.handsOn b then t.firstEvent b else t).afterAll else t

/-- FIRST_TICK_AFTER_RESET (R109). -/
def execFirstTickAfterReset (s : State) : Host.Outcome State Fault Refusal :=
  .next (s.when (s.startup.phase != .resetting && s.pacing.firstTick == .due) State.takeFirstTick)

/-! ### PRESENCE_CHANGE and DOOR_CHANGE -/

/-- R10, R15, R43, R44, R75, R117: a presence event of a populated bay handed to the custody unit, the charge
controller and the protection unit, and then to the bid and lane units (log entry 10). On a DISABLED bay's removal the
charge controller takes no action, on the tag fields of other bays neither. -/
def State.presenceEvent (s : State) (b : Bay) (present : Bool) : State :=
  let tag := (s.bay b).charge.tag
  let t := s.presenceAtLock b present tag (s.bay b).charge.level
  let t :=
    if present then t.modBay b fun r => r.dock (checkAtDockingOf s.force)
    else if (s.bay b).charge.state = .disabled then t
    else (t.modBay b BayRecord.remove).clearDeparted b tag
  t.afterBay b

/-- R10, R112, R113, R116: a door event of a populated bay handed to the custody, lane and bid units. -/
def State.doorEvent (s : State) (b : Bay) (isOpen : Bool) : State :=
  (if isOpen then s.doorOpens b else s.doorCloses b).afterBay b

/-- PRESENCE_CHANGE (R10): the presence debounce count of a bay reaches 50. -/
def execPresenceChange (b : Bay) (s : State) : Host.Outcome State Fault Refusal :=
  .next (s.when (s.startup.phase != .resetting && (s.bay b).presence.changed presenceTime) fun s =>
    let t := s.modBay b fun r => { r with presence := r.presence.flip }
    if s.handsOn b then t.presenceEvent b (t.bay b).presence.value else t)

/-- DOOR_CHANGE (R10): the door debounce count of a bay reaches 20. -/
def execDoorChange (b : Bay) (s : State) : Host.Outcome State Fault Refusal :=
  .next (s.when (s.startup.phase != .resetting && (s.bay b).door.changed doorTime) fun s =>
    let t := s.modBay b fun r => { r with door := r.door.flip }
    if s.handsOn b then t.doorEvent b (t.bay b).door.value else t)

/-! ### The scanner -/

/-- SCAN_PASS_START (R20): the scan divider reaches the scan period. -/
def execScanPassStart (s : State) : Host.Outcome State Fault Refusal :=
  .next (s.when
    (s.startup.phase != .resetting && s.scanner.pass.isNone && s.scanner.divider == scanPeriodOf s.force) fun s =>
      { s with scanner := { s.scanner with
          divider := 0, pass := some { tick := s.pacing.ticks, next := 0, period := scanPeriodOf s.force } } })

/-- The code of a channel in the result table; 0 before its first conversion, which no use of it reads. -/
def State.codeAt (s : State) (channel : Fin 19) : BitVec 12 := s.scanner.results[channel].getD 0

/-- R24: a code written into the result table, and the pass moved on to its next channel. -/
def State.writeCode (s : State) (p : Pass) (code : BitVec 12) : State :=
  { s with
    scanner := { s.scanner with
      results := s.scanner.results.set p.next (some code)
      pass := if h : p.next.val < 18 then some { p with next := ⟨p.next.val + 1, by omega⟩ } else none }
    pacing := { s.pacing with prescaler := max s.pacing.prescaler (320 * (p.next.val + 1)) } }

/-- R25: a bay sample published. -/
def State.baySample (s : State) (p : Pass) (b : Bay) : State :=
  s.takeSample p b (voltageOf (s.codeAt (voltageChannel b))) (currentOf (s.codeAt (currentChannel b)))

/-- R26: a temperature sample published. -/
def State.temperatureSample (s : State) : State :=
  s.withShare { s.share with temps := some (temperatureOf (s.codeAt 17), temperatureOf (s.codeAt 18)) }

/-- The bay whose channels stand at a scan list position (from 0): positions 0..15. -/
def channelBay (channel : Fin 19) : Option Bay := if h : channel.val < 16 then some ⟨channel.val / 2, by omega⟩ else none

/-- R21, R25, R26, R64: what the end of a channel's conversion publishes outside the inert state. At the end of a
bay's current conversion the protection unit notes the stage current limit. -/
def State.publish (s : State) (p : Pass) : State :=
  match channelBay p.next with
  | some b =>
    if p.next.val % 2 = 0 then s.modBay b fun r => { r with notedLimit := r.out.stageLimit } else s.baySample p b
  | none =>
    if p.next.val = 16 then (if s.running then s.railSample (railOf (s.codeAt 16)) else s)
    else if p.next.val = 18 then s.temperatureSample
    else s

/-- CONVERSION_END (R21): the conversion of the pass's next channel ends with a code. -/
def execConversionEnd (code : BitVec 12) (s : State) : Host.Outcome State Fault Refusal :=
  .next (match s.scanner.pass with
    | none => s
    | some p => s.when (s.startup.phase != .resetting) fun s =>
      let t := s.writeCode p code
      if s.awake then t.publish p else t)

end Sys2Proof.Machine
end

