-- ==== Sys2Proof/Machine/BusCommands.lean ====
section
/-! DEFINITION. The commands of the bus interface's sending side: LINE_IDLE, ATTEMPT_START, ARBITRATION_LOST,
BIT_ERROR and TRANSMISSION_COMPLETED (R103, R144, R146, R157 to R159, R169, R174 to R178). -/

namespace Sys2Proof.Machine

/-- R169: the output TXD in the bit time that stands `k` bit times after the start bit of the attempt in progress: the
frame's bit, and recessive while DRV_EN is deasserted, which it is at another node's start bit (R174); none where the
manual lays out no bit (log entry 7). The bit times of an attempt are not commands (log entry 21). -/
def State.txd (s : State) (k : Nat) : Option Bool :=
  match s.drvEn k, s.sendingEntry with
  | true, some e => (e.frame.bits s.startup.node)[k]?
  | _, _ => some true

/-- LINE_IDLE (R169): twelve recessive bit times have been counted. -/
def execLineIdle (s : State) : Host.Outcome State Fault Refusal :=
  .next (s.when (s.startup.phase != .resetting && s.bus.line == .gap) fun s => s.withLine .idle)

/-! ### The beginning of an attempt -/

/-- R102: the frame of an attempt as the attempt carries it: a REPORT takes the sequence number as it stands. -/
def TxFrame.atAttempt (seq : Nat) : TxFrame → TxFrame
  | .report r => .report { r with seq := seq }
  | f => f

/-- R134, R175: the bid unit told that an attempt of a BID begins. -/
def State.tellAttempt (s : State) : TxFrame → State
  | .bid b => s.modBid b.source b.request fun e => { e with sending := true }
  | _ => s

/-- R174: an attempt begun with the first frame of the transmit queue, at the station's own start bit or, `joined`, at
another node's, which the station takes as its own and sends from the class field on. -/
def State.beginAttempt (s : State) (joined : Bool := false) : State :=
  match s.bus.txq with
  | [] => s
  | e :: q =>
    (((s.withLine .attempt joined).withTxq
      ({ e with frame := e.frame.atAttempt s.share.seq, sending := true } :: q)).tellAttempt e.frame)

/-- ATTEMPT_START (R174). A muted station sends nothing (R178), and so does an inert one (R169). -/
def execAttemptStart (s : State) (joined : Bool := false) : Host.Outcome State Fault Refusal :=
  .next (s.when (s.awake && !s.bus.muted && s.bus.line == .idle) fun s => s.beginAttempt joined)

/-! ### The end of an attempt without completion -/

/-- R177: whether an unsent frame of the class of a REPORT or FLOW in an attempt waits behind it. -/
def State.overtaken (s : State) (f : TxFrame) : Bool := f.replaceable && s.bus.txq.any (·.replacedBy f)

/-- R144, R145, R148: whether a BID's entry is to be withdrawn at the end of its attempt. -/
def State.bidToWithdraw (s : State) (f : TxFrame) : Option BidEntry :=
  match f with
  | .bid b => (s.bidFor b.source b.request).filter fun e => e.void || e.withdrawal
  | _ => none

/-- R144: the entry of a BID whose attempt has ended without completion is QUEUED again. -/
def State.tellEnd (s : State) : TxFrame → State
  | .bid b => s.modBid b.source b.request fun e => { e with sending := false }
  | _ => s

/-- R144, R157, R159, R174, R177: the attempt in progress ends without completion: its frame stays queued, unless
a newer one of its kind waits behind it or its withdrawal waited for this end. -/
def State.endAttempt (s : State) : State :=
  match s.sendingEntry with
  | none => s
  | some e =>
    if s.overtaken e.frame || e.doomed then s.removeFrames (·.sending)
    else match s.bidToWithdraw e.frame with
      | some x => (s.dropBid x).removeFrames (·.sending)
      | none => (s.withTxq (s.bus.txq.map fun x => { x with sending := false })).tellEnd e.frame

/-- ARBITRATION_LOST (R174): the station reads on as a receiver. -/
def execArbitrationLost (s : State) : Host.Outcome State Fault Refusal :=
  .next (s.when (s.bus.line == .attempt) fun s => (s.withLine .receiving).endAttempt.laneProgress)

/-! ### Muting -/

/-- R178, R182: the muted flag set and the transmit queue emptied. -/
def State.silence (s : State) : State := { s with bus := { s.bus with muted := true, txq := [] } }

/-- R148, R178: every bid-list entry and every reservation removed. -/
def State.clearBids (s : State) : State :=
  { s with bids := [] }.mapBays fun _ r => { r with reservation := none }

/-- R166: every live job ended ABORTED, in ascending bay order. -/
def State.abortJobs (s : State) : State := s.forBays fun t b => t.endJob b .aborted

/-- R97: the share engine's clamp. -/
def State.clampCeiling (s : State) : State :=
  (s.lowerCeiling (min s.share.applied (min (orphanOf s.force) s.share.xt))).distributeIfChanged s.share.applied

/-- R97, R148, R166, R178: muting, block by block (log entry 12). -/
def State.mute (s : State) : State := s.silence.clearBids.abortJobs.clampCeiling.resumeEvent.laneProgress

/-- R175: the bit-error run after an attempt that ends by bit error. -/
def State.countBitError (s : State) : State := { s with bus := { s.bus with errorRun := min 3 (s.bus.errorRun + 1) } }

/-- BIT_ERROR (R174, R175), at a clock edge: at muting a distribution may enable a stage (R63). -/
def execBitError (s : State) (edge : Nat := 7999) : Host.Outcome State Fault Refusal :=
  .next (s.when (s.bus.line == .attempt && s.pacing.prescaler ≤ edge) fun s =>
    let t := ((s.atEdge edge).withLine .gap).countBitError.endAttempt
    if t.bus.errorRun = 3 then t.mute else t.laneProgress)

/-! ### Completion -/

/-- R95, R103: the completion of an own REPORT. The applied ceiling takes the pending raise, and never exceeds the
ceiling of the last transmitted REPORT: one above it, which only the completion of a REPORT that an older one's raise
has overtaken can leave, is lowered to it (log entry 30). -/
def State.reportCompleted (s : State) (r : OwnReport) : State :=
  let t := s.withShare { s.share with xt := r.ceiling, sentSeq := r.seq, seq := (r.seq + 1) % 16 }
  let u := t.moveCeiling (min (r.raise.getD s.share.applied) r.ceiling)
  if r.raise.isSome then u.distribute else u.distributeIfChanged s.share.applied

/-- The reason of the grant that a bid of a kind gives (R146). -/
def BidKind.reason : BidKind → GrantReason
  | .dispense => .dispense
  | .returnTablet => .returnTablet

/-- R146: the completion of an own BID. -/
def State.bidCompleted (s : State) (b : OwnBid) : State :=
  match s.bidFor b.source b.request with
  | none => s
  | some e =>
    if e.void then (s.dropBid e).offerOrDrop (.answer e.source (.grantVoid e.request e.bay))
    else ((s.dropBid e).grantBay e.bay { reason := e.kind.reason, requester := e.source, request := e.request }).afterBay e.bay

/-- R157, R158, R159: the completion of an own LANE CLAIM; one whose withdrawal waited has its lane given up at
once. -/
def State.claimCompleted (s : State) (doomed : Bool) (x : Lane) (b : Bay) : State :=
  let t := s.nameHolder x s.startup.node (some (bayNumber b))
  if doomed then t.giveUp x else t.withClaim (some { bay := b, phase := .settling x 5 })

/-- R175: the owner of a frame told of its completion. -/
def State.tellCompleted (s : State) (e : TxEntry) : State :=
  match e.frame with
  | .report r => s.reportCompleted r
  | .bid b => s.bidCompleted b
  | .claim x b => s.claimCompleted e.doomed x b
  | .hold _ | .resume _ | .free _ | .answer _ _ | .summary _ | .logPart1 _ _ | .logPart2 _ _ | .logEmpty _ _ _ => s

/-- R174, R175, R177: the attempt in progress completes: its frame leaves the queue, flow control is told of the
place, and then the frame's owner of the completion. -/
def State.complete (s : State) (e : TxEntry) : State :=
  let t := { s.withLine .gap with bus := { (s.withLine .gap).bus with errorRun := 0 } }
  ((t.removeFrames (·.sending)).tellCompleted e).laneProgress

/-- TRANSMISSION_COMPLETED (R174), at a clock edge: a raise's distribution may enable a stage (R63, R103). -/
def execTransmissionCompleted (s : State) (edge : Nat := 7999) : Host.Outcome State Fault Refusal :=
  .next (match s.sendingEntry with
    | some e => s.when (s.bus.line == .attempt && s.pacing.prescaler ≤ edge) fun s => (s.atEdge edge).complete e
    | none => s)

end Sys2Proof.Machine
end

