-- ==== Sys2Proof/Machine/StationCommands.lean ====
section
/-! DEFINITION. The commands of the station's own timers and lines: BID_WINDOW_EXPIRY, REPORT_PERIOD_EXPIRY,
PEER_SILENT, PEER_LOST, SETTLE_EXPIRY, JOB_TIME_LIMIT_EXPIRY, BUSY_LINE_CHANGE, SUMMARY_TIMER_EXPIRY and
HANDLING_INTERVAL_EXPIRY (R86, R101, R145, R157, R158, R162, R164, R183, R187). -/

namespace Sys2Proof.Machine

/-! ### Bids and shares -/

/-- R144, R145: the window of an entry expires: a QUEUED bid is withdrawn, a SENDING one waits for the end of the
attempt. -/
def State.expireBid (s : State) (e : BidEntry) : State :=
  if e.sending then s.modBid e.source e.request fun x => { x with window := none, withdrawal := true }
  else (s.withdrawBid e).laneProgress

/-- BID_WINDOW_EXPIRY (R145): the entry is named by its request. -/
def execBidWindowExpiry (source : Node) (request : ReqNo) (s : State) : Host.Outcome State Fault Refusal :=
  .next (match s.bidFor source request with
    | none => s
    | some e => s.when e.window.due fun s => s.expireBid e)

/-- REPORT_PERIOD_EXPIRY (R101). -/
def execReportPeriodExpiry (s : State) : Host.Outcome State Fault Refusal :=
  .next (s.when (s.running && s.share.reportTimer.due) State.reportPeriod)

/-- Whether a node other than this station holds an entry of a state whose threshold the latest tick found
reached (R86). -/
def State.peerDue (s : State) (m : Node) (state : PeerState) : Bool :=
  s.awake && m != 0#4 && m != s.startup.node && (s.peer (nodeIndex m)).state == state && (s.peer (nodeIndex m)).due

/-- PEER_SILENT (R86). -/
def execPeerSilent (m : Node) (s : State) : Host.Outcome State Fault Refusal :=
  .next (s.when (s.peerDue m .live) fun s => s.modPeer (nodeIndex m) fun p => { p with state := .silent, due := false })

/-- PEER_LOST (R86, R162). -/
def execPeerLost (m : Node) (s : State) : Host.Outcome State Fault Refusal :=
  .next (s.when (s.peerDue m .silent) fun s =>
    ((s.modPeer (nodeIndex m) fun p => { p with state := .lost, due := false }).freeLanesOf m).laneProgress)

/-! ### Lanes and jobs -/

/-- R158: the settle timer of a claim expires. -/
def State.settle (s : State) (b : Bay) (x : Lane) : State :=
  if s.busyLine x then ((s.giveUp x).modJob b fun j => { j with state := .waitLane }).withClaim none
  else if s.powered b then (s.connect b x).withClaim none
  else (s.giveUp x).withClaim (some { bay := b, phase := .awaitingPower })

/-- SETTLE_EXPIRY (R158). -/
def execSettleExpiry (s : State) : Host.Outcome State Fault Refusal :=
  .next (match s.lanes.claim with
    | some ⟨b, .settling x 0⟩ => (s.settle b x).laneProgress
    | _ => s)

/-- R164: a live job's elapsed count stands at its time limit. -/
def Job.expired (j : Job) : Bool := j.live && j.timeLimit * 60000 ≤ j.elapsed

/-- JOB_TIME_LIMIT_EXPIRY (R164). -/
def execJobTimeLimitExpiry (b : Bay) (s : State) : Host.Outcome State Fault Refusal :=
  .next (s.when ((s.bay b).slot.any Job.expired) fun s => (s.endJob b .expired).afterBay b)

/-- BUSY_LINE_CHANGE (R157): the level the other stations drive a lane's busy line to. -/
def execBusyLineChange (x : Lane) (busy : Bool) (s : State) : Host.Outcome State Fault Refusal :=
  .next { s with inputs := { s.inputs with busy := s.inputs.busy.set x busy } }.laneProgress

/-! ### The request handler's timers -/

/-- R187: the shelf summary as it stands. -/
def State.summary (s : State) : Summary :=
  { present := countBays fun b => (s.bay b).presence.value
    charging := countBays fun b => (s.bay b).charge.state.timeCounts
    maintain := countBays fun b => (s.bay b).charge.state == .maintain
    applied := s.share.applied
    attention := s.attention
    logCount := s.custody.log.length
    overflow := s.custody.overflow
    rxErrors := s.bus.rxErrors
    requests := s.bus.reqq.length
    defaulted := s.startup.defaulted }

/-- SUMMARY_TIMER_EXPIRY (R187). -/
def execSummaryTimerExpiry (s : State) : Host.Outcome State Fault Refusal :=
  .next (s.when (s.running && s.handler.summary.due) fun s =>
    { s with handler := { s.handler with summary := some 2000 } }.offerOrDrop (.summary s.summary))

/-- R181, R183: the oldest request taken, which starts the handling interval and is told to flow control; with an
empty queue the handler becomes idle. -/
def State.takeRequest (s : State) : State :=
  match s.bus.reqq with
  | [] => { s with handler := { s.handler with interval := none } }
  | q :: rest =>
    { s with
      bus := { s.bus with reqq := rest }
      handler := { s.handler with interval := some 1, taken := some q } }.resumeEvent

/-- HANDLING_INTERVAL_EXPIRY (R183). The request of the latest taking is acted on before the next is taken. -/
def execHandlingIntervalExpiry (s : State) : Host.Outcome State Fault Refusal :=
  .next (s.when (s.handler.interval.due && s.handler.taken.isNone) State.takeRequest)

end Sys2Proof.Machine
end

