-- ==== Sys2Proof/Machine/ReceiveCommands.lean ====
section
/-! DEFINITION. The commands of the bus interface's receiving side: FRAME_DROPPED, FRAME_PASSED_OVER,
FRAME_IGNORED, REPORT_RECEIVED, BID_RECEIVED, LANE_CLAIM_RECEIVED, LANE_FREE_RECEIVED, REQUEST_ACCEPTED, DISPENSE
and RETURN (R85, R136, R139 to R141, R143, R160 to R162, R172, R179 to R181). -/

namespace Sys2Proof.Machine

/-! ### Reception -/

/-- R169, R174: the station can be receiving a frame: outside the inert state, on a line that was idle at the
frame's start, or having lost arbitration to it. DESIGN CHOICE (log entry 43): R169 and R190 say of the inert state only
that no frame is accepted, and R172, which counts a frame that fails a check, names no state; in the inert state, and
while a reset lasts, the model receives no frame at all, so that a bad one raises no receive error count there. -/
def State.canReceive (s : State) : Bool := s.awake && (s.bus.line == .idle || s.bus.line == .receiving)

/-- R172: the station receives this frame, and its checks and routing come out as `r`. -/
def State.hears (s : State) (f : RxFrame) (r : Route) : Bool := s.canReceive && f.route s.startup.node == r

/-- FRAME_DROPPED (R172): the receive error count rises. -/
def execFrameDropped (f : RxFrame) (s : State) : Host.Outcome State Fault Refusal :=
  .next (s.when (s.hears f .dropped) fun s =>
    let t := s.withLine .gap
    { t with bus := { t.bus with rxErrors := min 255 (t.bus.rxErrors + 1) } })

/-- FRAME_PASSED_OVER (R172). -/
def execFramePassedOver (f : RxFrame) (s : State) : Host.Outcome State Fault Refusal :=
  .next (s.when (s.hears f .passedOver) fun s => s.withLine .gap)

/-- FRAME_IGNORED (R179). -/
def execFrameIgnored (f : RxFrame) (s : State) : Host.Outcome State Fault Refusal :=
  .next (s.when (s.hears f .ignored) fun s => s.withLine .gap)

/-- The lane a LANE frame carries; a frame that passed check 9 of R172 carries one of 1..4. -/
def laneOf (f : RxFrame) : Lane := Fin.ofNat 4 (f.laneByteLane - 1)

/-- REPORT_RECEIVED (R85, R162). -/
def execReportReceived (f : RxFrame) (s : State) : Host.Outcome State Fault Refusal :=
  .next (s.when (s.hears f .report) fun s =>
    let fields := readReport f.payload
    ((((s.withLine .gap).modPeer (nodeIndex f.src) fun p => p.hear fields).hearLaneSet f.src fields.lanes).laneProgress))

/-- BID_RECEIVED (R143). -/
def execBidReceived (f : RxFrame) (s : State) : Host.Outcome State Fault Refusal :=
  .next (s.when (s.hears f .bid) fun s =>
    let named := readBid f.payload
    let t := s.withLine .gap
    match t.bidFor named.source named.request with
    | none => t
    | some e => if e.sending then t else (t.withdrawBid e).laneProgress)

/-- LANE_CLAIM_RECEIVED (R160). -/
def execLaneClaimReceived (f : RxFrame) (s : State) : Host.Outcome State Fault Refusal :=
  .next (s.when (s.hears f .laneClaim) fun s =>
    ((s.withLine .gap).hearClaim (laneOf f) f.src f.laneByteBay).laneProgress)

/-- LANE_FREE_RECEIVED (R161). -/
def execLaneFreeReceived (f : RxFrame) (s : State) : Host.Outcome State Fault Refusal :=
  .next (s.when (s.hears f .laneFree) fun s => ((s.withLine .gap).hearFree (laneOf f) f.src).laneProgress)

/-! ### The request queue and flow control -/

/-- The number of entries the request queue holds (R180). -/
def requestCapacity : Nat := 12

/-- The request number a payload carries (R184); where the payload is too short to carry one, a free value
(log entry 4). -/
def State.requestNumber (s : State) (payload : List Byte) : ReqNo :=
  if payload.length < 2 then Config.freeRequestNumber s.freeCount else BitVec.ofNat 16 (wordAt payload 0)

/-- The counter of the free values after a payload's request number was read. -/
def State.usesFree (s : State) (payload : List Byte) : State :=
  if payload.length < 2 then { s with freeCount := s.freeCount + 1 } else s

/-- R180: the queue entry of an accepted REQUEST frame. -/
def State.requestOf (s : State) (k : RequestKind) (f : RxFrame) : Request :=
  { src := f.src, dst := f.dst, kind := k, key := f.key, payload := f.payload, number := s.requestNumber f.payload }

/-- R181: a request received while holding, accepted or dropped: at the fourth, FLOW HOLD is offered again. -/
def State.countHeld (s : State) : State :=
  if s.bus.holdCount = 3 then
    { s with bus := { s.bus with holdCount := 0 } }.offerOrDrop (.hold s.bus.reqq.length)
  else { s with bus := { s.bus with holdCount := s.bus.holdCount + 1 } }

/-- R181: the hold state after a request was placed in the queue. -/
def State.afterAccepted (s : State) : State :=
  if s.bus.holding then s.countHeld
  else if 9 ≤ s.bus.reqq.length then
    { s with bus := { s.bus with holding := true, holdCount := 0 } }.offerOrDrop (.hold s.bus.reqq.length)
  else s

/-- R180, R181: a request dropped at a full queue. -/
def State.dropRequest (s : State) (q : Request) : State :=
  let t := s.offerOrDrop (.answer q.src (.full q.kind q.number))
  if t.bus.holding then t.countHeld else t

/-- R180, R181, R183: a request placed in the queue, and taken at once by an idle handler. -/
def State.placeRequest (s : State) (q : Request) : State :=
  let t := { s with bus := { s.bus with reqq := s.bus.reqq ++ [q] } }.afterAccepted
  if t.handler.interval.isNone && t.handler.taken.isNone then t.takeRequest else t

/-- R180: an accepted REQUEST other than DISPENSE and RETURN. -/
def State.acceptRequest (s : State) (k : RequestKind) (f : RxFrame) : State :=
  let q := s.requestOf k f
  let t := (s.usesFree f.payload).withLine .gap
  if t.bus.reqq.length < requestCapacity then t.placeRequest q else t.dropRequest q

/-- The request kind whose frame goes to the request queue (R179). -/
def Route.queued : Route → Option RequestKind
  | .request .dispense | .request .returnTablet => none
  | .request k => some k
  | .dropped | .passedOver | .ignored | .report | .bid | .laneClaim | .laneFree => none

/-- REQUEST_ACCEPTED (R180). -/
def execRequestAccepted (f : RxFrame) (s : State) : Host.Outcome State Fault Refusal :=
  .next (match (f.route s.startup.node).queued with
    | some k => s.when s.canReceive fun s => s.acceptRequest k f
    | none => s)

/-! ### DISPENSE and RETURN -/

/-- R136: cases 1 to 5 and 8: whether the bid unit looks for a bay at all. -/
def State.mayBid (s : State) (q : Request) : Bool :=
  s.running && !s.bus.muted && s.authorized q.src .panel && (s.bidFor q.src q.number).isNone &&
  s.bids.length < bidCapacity && q.lengthFits

/-- R166: the live job of a bay reserved for a tagged DISPENSE ended ABORTED, unless it is CONNECTED. -/
def State.yieldJob (s : State) (b : Bay) : State :=
  if (s.bay b).jobState = some .connected then s else s.endJob b .aborted

/-- R137 to R139, R141: the bid for a DISPENSE that may be bid for. -/
def State.bidDispense (s : State) (q : Request) : State :=
  let minLevel := min 100 (byteAt q.payload 2)
  if q.payload.length = 7 then
    match s.offerTagged (tagAt q.payload 3) with
    | none => s
    | some (b, score) =>
      match s.placeBid q.src q.number .dispense minLevel b score true with
      | none => s
      | some t => (t.yieldJob b).afterBay b
  else
    match s.offerDispense minLevel with
    | none => s
    | some (b, score) => ((s.placeBid q.src q.number .dispense minLevel b score false).map (·.afterBay b)).getD s

/-- R140, R141: the bid for a RETURN that may be bid for. -/
def State.bidReturn (s : State) (q : Request) : State :=
  let tag := if q.payload.length = 6 then some (tagAt q.payload 2) else none
  match s.offerReturn tag with
  | none => s
  | some (b, score) => ((s.placeBid q.src q.number .returnTablet 0 b score (score = 255)).map (·.afterBay b)).getD s

/-- R125, R136: an accepted DISPENSE or RETURN acts on the open-all confirmation and is then bid for, or not. It enters
no request queue, and R181 does not say whether it counts as "a REQUEST accepted" while the station holds: that it does
not raise the hold count is the model's choice (log entry 35). -/
def State.bidRequest (s : State) (k : RequestKind) (f : RxFrame) (bid : State → Request → State) : State :=
  let q := s.requestOf k f
  let t := (s.usesFree f.payload).withLine .gap
  let t := if t.running then t.confirmOther k f.src else t
  if t.mayBid q then bid t q else t

/-- DISPENSE (R136). -/
def execDispense (f : RxFrame) (s : State) : Host.Outcome State Fault Refusal :=
  .next (s.when (s.hears f (.request .dispense)) fun s => s.bidRequest .dispense f State.bidDispense)

/-- RETURN (R136, R140). -/
def execReturnTablet (f : RxFrame) (s : State) : Host.Outcome State Fault Refusal :=
  .next (s.when (s.hears f (.request .returnTablet)) fun s => s.bidRequest .returnTablet f State.bidReturn)

end Sys2Proof.Machine
end

