-- ==== Sys2Proof/Machine/ResetCommands.lean ====
section
/-! DEFINITION. The resets, the entry into RUN, and the commands of start-up's own timers: POWER_ON_RESET,
PIN_RESET, RESET_END, FIRST_FRAME_TIMER_EXPIRY and CLOSE_TIMER_EXPIRY (R2, R3, R189, R193, R194). -/

namespace Sys2Proof.Machine

/-! ### Resets -/

/-- R2: a bay record after a pin reset: the fault score and the latched mark are kept, and the held quarantine is
set if the bay was QUARANTINED. -/
def BayRecord.pinReset (r : BayRecord) : BayRecord :=
  { BayRecord.reset with
    prot := { BayRecord.reset.prot with
      score := r.prot.score, latched := r.prot.latched,
      held := r.prot.held || r.charge.state == .quarantined } }

/-- R2, R189: every block at its power-on reset values. The inputs, which are not the part's own, and the
model's own items stand. -/
def State.powerOnReset (s : State) : State :=
  { State.reset with inputs := s.inputs, freeCount := s.freeCount, pending := s.pending }

/-- R2, R132: as a power-on reset, but for the bay items R2 keeps and the release log with its numbering. -/
def State.pinReset (s : State) : State :=
  { s.powerOnReset with
    bays := s.bays.map BayRecord.pinReset
    custody := { s.custody with allSource := none, allCount := 0 } }

/-- R189: the straps sampled at the end of a reset. -/
def State.endReset (s : State) (node : Node) (feedClass : BitVec 2) : State :=
  { s with startup := { s.startup with
      phase := if node = 0#4 then .inert else .config
      node := node
      feedClass := feedClass
      firstFrame := if node = 0#4 then none else some 20000
      close := none } }

/-! ### Entry into RUN -/

/-- R1, R2, R5, R6: the bay record fields that start-up and settings owns, as an image has them. -/
def BayRecord.fit (img : Image) (b : Bay) (r : BayRecord) : BayRecord :=
  { r with populated := populatedOf img b, profile := bayProfileOf img b }

/-- R3: the charge state a populated bay enters RUN with. -/
def BayRecord.enterCharge (check : Bool) (r : BayRecord) : BayRecord :=
  if r.prot.held then
    let t := r.toOff .quarantined
    { t with prot := { t.prot with held := false } }
  else if r.prot.latched then r.toOff .faulted
  else r.toCleared check

/-- R3, R5, R11, R13, R29, R76: a bay record at entry into RUN with the settings image. -/
def BayRecord.enterRun (img : Image) (b : Bay) (r : BayRecord) : BayRecord :=
  let r :=
    { r.fit img b with
      measure := none
      prot := { r.prot.disarm with retryCount := 0, mark := false, retryTimer := none }
      out := { r.out with crosspoint := none } }
  if r.populated then
    { r with out := { r.out with voltageSelect := (profileOf img r.profile).voltage } }.enterCharge (checkAtDockingOf img)
  else (r.toOff .disabled).secure

/-- R20, R98, R101, R105, R119, R135, R150, R187, R193, R194: entry into RUN, with the defaulted flag it sets. -/
def State.enterRun (s : State) (defaulted : Bool) : State :=
  let img := s.startup.image
  let t := s.mapBays (BayRecord.enterRun img)
  { t with
    startup := { t.startup with phase := .run, firstFrame := none, close := none, defaulted := defaulted }
    scanner := { t.scanner with divider := 0 }
    share := { t.share with warnRun := 0, tripRun := 0, reportTimer := some (reportPeriodOf img) }
    custody := { t.custody with allSource := none, allCount := 0 }
    bids := []
    lanes := { t.lanes with claim := none }
    handler := { t.handler with summary := some 2000 } }

/-! ### The commands -/

/-- POWER_ON_RESET (R2): the supply rises. -/
def execPowerOnReset (s : State) : Host.Outcome State Fault Refusal := .next s.powerOnReset

/-- PIN_RESET (R2): RST_N is asserted. -/
def execPinReset (s : State) : Host.Outcome State Fault Refusal := .next s.pinReset

/-- RESET_END (R189): the reset that lasts ends. -/
def execResetEnd (node : Node) (feedClass : BitVec 2) (s : State) : Host.Outcome State Fault Refusal :=
  .next (s.when (s.startup.phase == .resetting) fun s => s.endReset node feedClass)

/-- FIRST_FRAME_TIMER_EXPIRY (R193). -/
def execFirstFrameTimerExpiry (s : State) : Host.Outcome State Fault Refusal :=
  .next (s.when (s.startup.phase == .config && s.startup.firstFrame.due) fun s => s.enterRun true)

/-- CLOSE_TIMER_EXPIRY (R193). -/
def execCloseTimerExpiry (s : State) : Host.Outcome State Fault Refusal :=
  .next (s.when (s.startup.phase == .config && s.startup.close.due) fun s => s.enterRun true)

end Sys2Proof.Machine
end

