-- ==== Sys2Proof/Machine/RequestCommands.lean ====
section
/-! DEFINITION. The commands of a taken request that changes the part: OPEN_BAY, OPEN_ALL, WITHDRAW, PROVISION,
JOB_RESULT, TABLET_INFO, CONNECTOR_CHECK, CLEAR_FAULT, RESTART, SETTINGS and SETTINGS_CLOSE (R4, R14, R58, R67,
R77, R78, R119, R123 to R127, R148, R151, R165, R183, R184, R191 to R193, R195). -/

namespace Sys2Proof.Machine

/-! ### What every taken request goes through -/

/-- The request the handler has taken, if it is of kind `k`, acted on; otherwise the state is left (log entry 3). -/
def State.onTaken (s : State) (k : RequestKind) (f : Request → State → State) : State :=
  match s.handler.taken with
  | some q => if q.kind = k then f q { s with handler := { s.handler with taken := none } } else s
  | none => s

/-- R183, R184: the checks before the owner's: NOT_RUNNING in CONFIG, the confirmation and the authority check in
RUN, and the payload length. `denied` is what a refusal NOT_AUTHORIZED does besides its answer. -/
def State.checkedOr (s : State) (q : Request) (denied owner : State → State) : State :=
  if s.startup.phase = .run then
    let t := s.confirm q.kind q.src q.number
    if !t.permitted q.kind q.src then (denied t).refuse q .notAuthorized
    else if !q.lengthFits then t.refuse q .badArg
    else owner t
  else s.refuse q .notRunning

/-- R183, R184: the checks before the owner's of a request whose refusal makes no record. -/
def State.checked (s : State) (q : Request) (owner : State → State) : State := s.checkedOr q id owner

/-- R67, R77, R124, R127, R151, R165: a bay number outside 1..8 is refused BAD_ARG. -/
def State.withBay (s : State) (q : Request) (f : Bay → State) : State :=
  match bayOf q.bayArg with
  | none => s.refuse q .badArg
  | some b => f b

/-- The bay as a REFUSED record carries it: the carried bay if it is 1..8, else bay 0 (R124). -/
def Request.recordBay (q : Request) : Nat := if (bayOf q.bayArg).isSome && 3 ≤ q.payload.length then q.bayArg else 0

/-- R124, R125: a REFUSED record. -/
def State.recordRefused (s : State) (q : Request) (bay : Nat) : State :=
  s.addRecord bay .refused (some q.src) (some q.number) none none

/-! ### Custody -/

/-- R124: the owner's checks of OPEN_BAY and its grant. -/
def State.openBay (s : State) (q : Request) (b : Bay) : State :=
  if !(s.bay b).populated then s.refuse q .noBay
  else if (s.bay b).lock.state.doorOpen then s.refuse q .bayState
  else if (s.bay b).jobState = some .connected ∧ !s.authorized q.src .service then s.refuse q .busyJob
  else ((s.grantBay b { reason := .openBay, requester := q.src, request := q.number }).afterBay b).accept q

/-- OPEN_BAY (R124). -/
def execOpenBay (s : State) : Host.Outcome State Fault Refusal :=
  .next (s.onTaken .openBay fun q s =>
    s.checkedOr q (fun t => t.recordRefused q q.recordBay) fun t => t.withBay q fun b => t.openBay q b)

/-- OPEN_ALL (R125, R126): the confirmation and the grants are made before the checks that decide the answer. -/
def execOpenAll (s : State) : Host.Outcome State Fault Refusal :=
  .next (s.onTaken .openAll fun q s => s.checkedOr q (fun t => t.recordRefused q 0) fun t => t.accept q)

/-- R148: the pending bid that a WITHDRAW names, withdrawn or voided. -/
def State.withdrawPending (s : State) (source : Node) (request : ReqNo) (b : Bay) : State :=
  match s.bidFor source request with
  | none => s
  | some e => if e.bay ≠ b then s else (if e.sending then s.voidBid e else s.withdrawBid e).laneProgress

/-- R127: the checks of WITHDRAW on a bay's grant, and its ending. -/
def State.withdrawGrant (s : State) (q : Request) (b : Bay) : State :=
  if !(s.bay b).populated then s.refuse q .noBay
  else match (s.bay b).lock.grant with
    | none => s.refuse q .bayState
    | some g =>
      if g.request ≠ BitVec.ofNat 16 (wordAt q.payload 3) then s.refuse q .bayState
      else if g.requester ≠ q.src then s.refuse q .notAuthorized
      else if (s.bay b).lock.state ≠ .granted then s.refuse q .bayState
      else ((s.endGrant b .withdrawn).afterBay b).accept q

/-- WITHDRAW (R127, R148). -/
def execWithdraw (s : State) : Host.Outcome State Fault Refusal :=
  .next (s.onTaken .withdraw fun q s => s.checked q fun t => t.withBay q fun b =>
    (t.withdrawPending q.src (BitVec.ofNat 16 (wordAt q.payload 3)) b).withdrawGrant q b)

/-! ### Jobs -/

/-- R151: the job that an accepted PROVISION places. -/
def Request.newJob (q : Request) (kind : JobKind) (arrival : Nat) : Job :=
  { id := BitVec.ofNat 16 (wordAt q.payload 4), kind := kind, requester := q.src,
    timeLimit := max 1 (byteAt q.payload 6), elapsed := 0, state := .queued, lane := none, suspensions := 0,
    arrival := arrival, outcome := none, unread := false }

/-- The last value of the arrival counter's range (R150). -/
def lastArrival : Nat := 4294967295

/-- R150: the arrival counter after it has given out a value; after its last value, a free one (log entry 5). -/
def State.nextArrival (s : State) : State :=
  if s.lanes.arrivals < lastArrival then { s with lanes := { s.lanes with arrivals := s.lanes.arrivals + 1 } }
  else
    { s with
      lanes := { s.lanes with arrivals := (Config.arrivalAfterLast s.freeCount).toNat }
      freeCount := s.freeCount + 1 }

/-- R151, R166: a job placed in a bay's slot and judged; while muted it ends ABORTED. -/
def State.placeJob (s : State) (q : Request) (b : Bay) (kind : JobKind) : State :=
  let t := (s.modBay b fun r => { r with slot := some (q.newJob kind s.lanes.arrivals) }).nextArrival
  (if t.bus.muted then t.endJob b .aborted else t).afterBay b

/-- R151: the owner's checks of PROVISION, from the second on. -/
def State.provision (s : State) (q : Request) (b : Bay) : State :=
  match jobKindOf (byteAt q.payload 3) with
  | none => s.refuse q .badArg
  | some kind =>
    let r := s.bay b
    if !r.populated || !r.presence.value then s.refuse q .noBay
    else if r.charge.state.stopped then s.refuse q .bayState
    else if r.hasLiveJob then s.refuse q .busyJob
    else if r.lock.state ≠ .secured then s.refuse q .bayState
    else (s.placeJob q b kind).accept q

/-- PROVISION (R151). -/
def execProvision (s : State) : Host.Outcome State Fault Refusal :=
  .next (s.onTaken .provision fun q s => s.checked q fun t => t.withBay q fun b => t.provision q b)

/-- R165: the job that a JOB_RESULT may end. -/
def Job.answersTo (j : Job) (id : BitVec 16) : Bool := j.state == .connected && j.id == id

/-- R165: the owner's checks of JOB_RESULT, from the second on. -/
def State.jobResult (s : State) (q : Request) (b : Bay) : State :=
  match resultOf (byteAt q.payload 5) with
  | none => s.refuse q .badArg
  | some outcome =>
    if (s.bay b).slot.any (·.answersTo (BitVec.ofNat 16 (wordAt q.payload 3))) then
      ((s.endJob b outcome).afterBay b).accept q
    else s.refuse q .noJob

/-- JOB_RESULT (R165). -/
def execJobResult (s : State) : Host.Outcome State Fault Refusal :=
  .next (s.onTaken .jobResult fun q s => s.checked q fun t => t.withBay q fun b => t.jobResult q b)

/-! ### Tablets, connectors and faults -/

/-- R14: a reported tag at a bay that is not the one it was reported for. -/
def BayRecord.forgetTag (tag : Tag) (r : BayRecord) : BayRecord :=
  { r with charge := { r.charge with
      tag := if r.charge.tag = some tag then none else r.charge.tag
      departed := if r.charge.departed = some tag then none else r.charge.departed } }

/-- R14, R58: a reported tag and level at the bay they were reported for. -/
def BayRecord.takeInfo (tag : Tag) (percent : Nat) (r : BayRecord) : BayRecord :=
  let level := min 100 percent * 10
  { r with charge := { r.charge with
      tag := some tag
      departed := none
      level := some (if r.charge.state = .maintain then level else min 999 level)
      acc := 0 } }

/-- R14, R58: a TABLET_INFO applied by the charge controller. -/
def State.applyInfo (s : State) (b : Bay) (tag : Tag) (percent : Nat) : State :=
  s.mapBays fun c r => if c = b then r.takeInfo tag percent else r.forgetTag tag

/-- R14: the owner's checks of TABLET_INFO, from the second on. -/
def State.tabletInfo (s : State) (q : Request) (b : Bay) : State :=
  if !(s.bay b).populated || !(s.bay b).presence.value then s.refuse q .noBay
  else ((s.applyInfo b (tagAt q.payload 3) (byteAt q.payload 7)).afterBay b).accept q

/-- TABLET_INFO (R14). -/
def execTabletInfo (s : State) : Host.Outcome State Fault Refusal :=
  .next (s.onTaken .tabletInfo fun q s => s.checked q fun t => t.withBay q fun b => t.tabletInfo q b)

/-- R67: the owner's checks of CONNECTOR_CHECK, from the second on. -/
def State.connectorCheck (s : State) (q : Request) (b : Bay) : State :=
  if !(s.bay b).populated then s.refuse q .noBay
  else (s.modBay b fun r => { r with prot := { r.prot with mark := true } }).accept q

/-- CONNECTOR_CHECK (R67). -/
def execConnectorCheck (s : State) : Host.Outcome State Fault Refusal :=
  .next (s.onTaken .connectorCheck fun q s => s.checked q fun t => t.withBay q fun b => t.connectorCheck q b)

/-- R77: the least level that a bay's state requires of a CLEAR_FAULT. -/
def BayRecord.clearLevel (r : BayRecord) : Authority :=
  if r.charge.state = .faulted ∧ !r.prot.latched then .teacher else .service

/-- R78: an accepted CLEAR_FAULT on a bay record. -/
def BayRecord.clearFault (service check : Bool) (r : BayRecord) : BayRecord :=
  let t :=
    { r with prot := { r.prot with
        latched := false, retryCount := 0, score := if service then 0 else r.prot.score } }
  if r.charge.state.stopped then t.toCleared check else t

/-- R77, R78: the owner's checks of CLEAR_FAULT, from the third on. -/
def State.clearFault (s : State) (q : Request) (b : Bay) : State :=
  if !(s.bay b).populated then s.refuse q .noBay
  else if !s.authorized q.src (s.bay b).clearLevel then s.refuse q .notAuthorized
  else ((s.modBay b (BayRecord.clearFault (s.authorized q.src .service) (checkAtDockingOf s.force))).afterBay b).accept q

/-- CLEAR_FAULT (R77, R78). -/
def execClearFault (s : State) : Host.Outcome State Fault Refusal :=
  .next (s.onTaken .clearFault fun q s => s.checked q fun t => t.withBay q fun b => t.clearFault q b)

/-! ### RESTART -/

/-- R4, R31, R62, R76: a bay record at a RESTART, its lock apart; a DISABLED bay's stage and detectors are off already. -/
def BayRecord.restart (check : Bool) (r : BayRecord) : BayRecord :=
  let t :=
    { r with
      measure := none
      charge := { r.charge with level := none, acc := 0, time := 0, exceeded := false }
      prot := { r.prot with retryCount := 0, mark := false, retryTimer := none } }
  match r.charge.state with
  | .disabled => t.toOff .disabled
  | .faulted => t.toOff .faulted
  | .quarantined => t.toOff .quarantined
  | .empty | .detect | .softstart | .bulk | .taper | .maintain | .paused | .retryWait => t.toCleared check

/-- R119: the grants that a RESTART ends, in ascending bay order. -/
def State.restartLocks (s : State) : State :=
  s.forBays fun t b => if (t.bay b).lock.state = .granted then t.endGrant b .lapsed else t

/-- R148: the bids at a RESTART: QUEUED ones withdrawn, SENDING ones voided and withdrawn at the end of the
attempt, every reservation released. -/
def State.restartBids (s : State) : State :=
  (s.bids.foldl
    (fun t e =>
      if e.sending then (t.voidBid e).modBid e.source e.request fun x => { x with withdrawal := true }
      else t.withdrawBid e) s).mapBays fun _ r => { r with reservation := none }

/-- R4, R76, R119, R148, R166, R195: a RESTART handed to every block (log entry 11). -/
def State.restart (s : State) : State :=
  (s.restartLocks.mapBays fun _ r => r.restart (checkAtDockingOf s.force)).restartBids.abortJobs.laneProgress

/-- RESTART (R195). -/
def execRestart (s : State) : Host.Outcome State Fault Refusal :=
  .next (s.onTaken .restart fun q s => s.checked q fun t => t.restart.accept q)

/-! ### Settings -/

/-- R193: the configuration window at the taking of a SETTINGS in CONFIG: the first one stops the first-frame timer
and starts the close timer. -/
def State.openWindow (s : State) : State :=
  if s.startup.close.isNone then { s with startup := { s.startup with firstFrame := none, close := some 10000 } } else s

/-- R191: a SETTINGS taken in CONFIG. -/
def State.writeSetting (s : State) (q : Request) : State :=
  let item := byteAt q.payload 2
  if !q.lengthFits then s.refuse q .badArg
  else if item < 1 ∨ 85 < item then s.refuse q .badArg
  else { s with startup := { s.startup with image := writeItem s.startup.image item (wordAt q.payload 3) } }.accept q

/-- R183, R193: a SETTINGS or SETTINGS_CLOSE taken in RUN is refused CLOSED. -/
def State.refuseClosed (s : State) (q : Request) : State := (s.confirm q.kind q.src q.number).refuse q .closed

/-- SETTINGS (R191, R193). -/
def execSettings (s : State) : Host.Outcome State Fault Refusal :=
  .next (s.onTaken .settings fun q s =>
    if s.startup.phase = .run then s.refuseClosed q else s.openWindow.writeSetting q)

/-- R192: a SETTINGS_CLOSE taken in CONFIG. -/
def State.closeSettings (s : State) (q : Request) : State :=
  if !q.lengthFits then s.refuse q .badArg
  else if wordAt q.payload 2 = (signatureOf s.startup.image).toNat then (s.enterRun false).accept q
  else s.refuse q .signature

/-- SETTINGS_CLOSE (R192). -/
def execSettingsClose (s : State) : Host.Outcome State Fault Refusal :=
  .next (s.onTaken .settingsClose fun q s =>
    if s.startup.phase = .run then s.refuseClosed q else s.closeSettings q)

end Sys2Proof.Machine
end

