-- ==== Sys2Proof/Machine/QueryCommands.lean ====
section
/-! DEFINITION. The commands of a taken request that reads the part: QUERY_BAY, QUERY_JOB, QUERY_PEERS,
QUERY_SHELF and FETCH_LOG (R24, R80, R83, R106, R121, R131, R149, R168, R182, R185, R186). -/

namespace Sys2Proof.Machine

/-! ### The reports -/

/-- R24, R185: what the STATUS frames of a QUERY BAY report. -/
def State.bayReport (s : State) (b : Bay) : BayReport :=
  let r := s.bay b
  { bay := bayNumber b
    populated := r.populated
    profile := r.profile.val + 1
    presence := r.presence.value
    doorOpen := r.door.value
    charge := r.charge.state
    level := r.charge.level
    limit := r.charge.limit
    keep := r.charge.keep
    urgent := r.charge.urgent
    normal := r.charge.normal
    filtered := r.filtered
    chargeTime := r.charge.time
    current := s.scanner.results[currentChannel b].map currentOf
    voltage := s.scanner.results[voltageChannel b].map voltageOf
    tag := r.charge.tag
    departed := r.charge.departed
    provisioned := r.charge.provisioned
    lock := r.lock.state
    grant := r.lock.grant
    windowLeft := r.lock.window
    baseline := r.lock.baseline
    job := r.jobState
    reservation := r.reservation
    score := r.prot.score
    retryCount := r.prot.retryCount
    latched := r.prot.latched
    lastFault := r.prot.lastFault
    mark := r.prot.mark
    result := r.prot.result }

/-- R168: what the STATUS frames of a QUERY JOB report of a job. -/
def Job.report (j : Job) : JobReport :=
  { id := j.id
    kind := j.kind
    requester := j.requester
    timeLimit := j.timeLimit
    elapsed := j.elapsed / 1000
    state := j.state
    lane := j.lane
    suspensions := j.suspensions
    outcome := j.outcome
    unread := j.unread }

/-- R83, R185: what a STATUS frame of a QUERY PEERS reports of one entry. -/
def State.peerReport (s : State) (i : Fin 15) : PeerReport :=
  { node := i.val + 1
    state := (s.peer i).state
    ceiling := (s.peer i).ceiling
    missed := (s.peer i).missed }

/-- R185: the reports of a QUERY PEERS: one for each entry that is not ABSENT, in node order, or one that says
"none". -/
def State.peerReports (s : State) : List Report :=
  match allPeers.filter fun i => (s.peer i).state ≠ .absent with
  | [] => [.peer none]
  | entries => entries.map fun i => .peer (some (s.peerReport i))

/-- R185, R192: what the STATUS frames of a QUERY SHELF report. The items are read back in CONFIG alone; that the target
SHELF carries them is the model's choice (log entry 36). -/
def State.shelfReport (s : State) : ShelfReport :=
  { node := s.startup.node
    feedClass := s.startup.feedClass
    phase := s.startup.phase
    uptime := s.pacing.uptime
    defaulted := s.startup.defaulted
    rail := s.scanner.results[16].map railOf
    tempA := s.scanner.results[17].map temperatureOf
    tempB := s.scanner.results[18].map temperatureOf
    budget := s.share.budget
    applied := s.share.applied
    xt := s.share.xt
    thermal := s.share.thermal
    droopFactor := s.share.droopFactor
    droop := s.share.droop
    shareSelf := s.share.shareSelf
    policies := faultClasses.map (policyOf s.force)
    bids := s.bids.length
    lanes := s.lanes.table
    claim := s.lanes.claim.map (·.phase)
    rxErrors := s.bus.rxErrors
    errorRun := s.bus.errorRun
    requests := s.bus.reqq.length
    transmits := s.bus.txq.length
    holding := s.bus.holding
    logCount := s.custody.log.length
    overflow := s.custody.overflow
    attention := s.attention
    image := if s.startup.phase = .config then some s.startup.image else none }

/-! ### STATUS answers -/

/-- R185: one STATUS frame. -/
def Request.statusPart (q : Request) (target : QueryTarget) (part count : Nat) (r : Report) : TxFrame :=
  .answer q.src (.status q.number target part count r)

/-- R185: STATUS frames offered one by one in index order, each taken or dropped on its own: the reports of the
parts from index `part` on. -/
def State.offerParts (s : State) (q : Request) (target : QueryTarget) (count part : Nat) : List Report → State
  | [] => s
  | r :: rs => (s.offerOrDrop (q.statusPart target part count r)).offerParts q target count (part + 1) rs

/-- R185: an answer of STATUS frames, one for each report. -/
def State.answerParts (s : State) (q : Request) (target : QueryTarget) (reports : List Report) : State :=
  s.offerParts q target reports.length 1 reports

/-- R183, R184, R185: a QUERY of one of the targets `p` names, acted on: in CONFIG without an authority check. -/
def State.onQuery (s : State) (p : Option QueryTarget → Bool) (answer : Request → State → State) : State :=
  match s.handler.taken with
  | some q =>
    if q.kind = .query ∧ p q.target then
      let t := { s with handler := { s.handler with taken := none } }
      if t.startup.phase = .run then t.checked q (answer q)
      else if !q.lengthFits then t.refuse q .badArg
      else answer q t
    else s
  | none => s

/-- R185: the bay of a QUERY BAY or QUERY JOB: outside 1..8 it is refused BAD_ARG. -/
def State.queryBayArg (s : State) (q : Request) (f : Bay → State) : State :=
  match bayOf (byteAt q.payload 3) with
  | none => s.refuse q .badArg
  | some b => f b

/-- QUERY_BAY (R185). A QUERY of unknown target, which belongs to no row of its own, is refused BAD_ARG here
(log entry 3). -/
def execQueryBay (s : State) : Host.Outcome State Fault Refusal :=
  .next (s.onQuery (fun t => t = some .bay || t.isNone) fun q s =>
    if q.target.isNone then s.refuse q .badArg
    else s.queryBayArg q fun b => s.answerParts q .bay (List.replicate 6 (.bay (s.bayReport b))))

/-- R167, R185: the unread mark of a bay's slot cleared. -/
def State.clearUnread (s : State) (b : Bay) : State := s.modJob b fun j => { j with unread := false }

/-- R167, R185: a QUERY JOB answered in two parts; the unread mark is cleared only if both were taken. -/
def State.answerJob (s : State) (q : Request) (b : Bay) : State :=
  let report : Report := .job (bayNumber b) ((s.bay b).slot.map Job.report)
  match s.offer (q.statusPart .job 1 2 report) with
  | none => s.offerOrDrop (q.statusPart .job 2 2 report)
  | some t => match t.offer (q.statusPart .job 2 2 report) with
    | none => t
    | some u => u.clearUnread b

/-- QUERY_JOB (R185). -/
def execQueryJob (s : State) : Host.Outcome State Fault Refusal :=
  .next (s.onQuery (· = some .job) fun q s => s.queryBayArg q fun b => s.answerJob q b)

/-- QUERY_PEERS (R185). -/
def execQueryPeers (s : State) : Host.Outcome State Fault Refusal :=
  .next (s.onQuery (· = some .peers) fun q s => s.answerParts q .peers s.peerReports)

/-- QUERY_SHELF (R185). -/
def execQueryShelf (s : State) : Host.Outcome State Fault Refusal :=
  .next (s.onQuery (· = some .shelf) fun q s => s.answerParts q .shelf (List.replicate 8 (.shelf s.shelfReport)))

/-! ### The release log -/

/-- R131, R186: the oldest record sent as its two LOG frames and removed, or kept where they are refused; LOG EMPTY
of an empty log. -/
def State.fetchLog (s : State) (q : Request) : State :=
  match s.custody.log with
  | [] => s.offerOrDrop (.logEmpty q.src s.custody.nextNumber s.custody.overflow)
  | r :: rest => match s.offerPair (.logPart1 q.src r) (.logPart2 q.src r) with
    | none => s
    | some t => { t with custody := { t.custody with log := rest } }

/-- FETCH_LOG (R131, R186). -/
def execFetchLog (s : State) : Host.Outcome State Fault Refusal :=
  .next (s.onTaken .fetchLog fun q s => s.checked q fun t => t.fetchLog q)

end Sys2Proof.Machine
end

