-- ==== Sys2Proof/Machine/Dispatch.lean ====
section
/-! DEFINITION. The meaning of every command: one arm per row of spec/opcode_table.json, in the table's order. -/

namespace Sys2Proof.Machine

def exec (i : Instr) (s : State) : Host.Outcome State Fault Refusal :=
  match i with
  | .powerOnReset => Sys2Proof.Machine.execPowerOnReset s
  | .pinReset => Sys2Proof.Machine.execPinReset s
  | .resetEnd node feedClass => Sys2Proof.Machine.execResetEnd node feedClass s
  | .tick inputs => Sys2Proof.Machine.execTick inputs s
  | .uptimeSecond => Sys2Proof.Machine.execUptimeSecond s
  | .firstTickAfterReset => Sys2Proof.Machine.execFirstTickAfterReset s
  | .presenceChange bay => Sys2Proof.Machine.execPresenceChange bay s
  | .doorChange bay => Sys2Proof.Machine.execDoorChange bay s
  | .scanPassStart => Sys2Proof.Machine.execScanPassStart s
  | .conversionEnd code => Sys2Proof.Machine.execConversionEnd code s
  | .shortDetected bay edge high => Sys2Proof.Machine.execShortDetected bay edge high s
  | .detectTimerExpiry bay => Sys2Proof.Machine.execDetectTimerExpiry bay s
  | .retryDelayExpiry bay => Sys2Proof.Machine.execRetryDelayExpiry bay s
  | .chargeTimeExceeded bay => Sys2Proof.Machine.execChargeTimeExceeded bay s
  | .grantWindowExpiry bay => Sys2Proof.Machine.execGrantWindowExpiry bay s
  | .ajarTimerExpiry bay => Sys2Proof.Machine.execAjarTimerExpiry bay s
  | .bidWindowExpiry source request => Sys2Proof.Machine.execBidWindowExpiry source request s
  | .reportPeriodExpiry => Sys2Proof.Machine.execReportPeriodExpiry s
  | .peerSilent node => Sys2Proof.Machine.execPeerSilent node s
  | .peerLost node => Sys2Proof.Machine.execPeerLost node s
  | .settleExpiry => Sys2Proof.Machine.execSettleExpiry s
  | .jobTimeLimitExpiry bay => Sys2Proof.Machine.execJobTimeLimitExpiry bay s
  | .busyLineChange lane busy => Sys2Proof.Machine.execBusyLineChange lane busy s
  | .summaryTimerExpiry => Sys2Proof.Machine.execSummaryTimerExpiry s
  | .handlingIntervalExpiry => Sys2Proof.Machine.execHandlingIntervalExpiry s
  | .firstFrameTimerExpiry => Sys2Proof.Machine.execFirstFrameTimerExpiry s
  | .closeTimerExpiry => Sys2Proof.Machine.execCloseTimerExpiry s
  | .lineIdle => Sys2Proof.Machine.execLineIdle s
  | .attemptStart joined => Sys2Proof.Machine.execAttemptStart s joined
  | .arbitrationLost => Sys2Proof.Machine.execArbitrationLost s
  | .bitError edge => Sys2Proof.Machine.execBitError s edge
  | .transmissionCompleted edge => Sys2Proof.Machine.execTransmissionCompleted s edge
  | .frameDropped frame => Sys2Proof.Machine.execFrameDropped frame s
  | .framePassedOver frame => Sys2Proof.Machine.execFramePassedOver frame s
  | .frameIgnored frame => Sys2Proof.Machine.execFrameIgnored frame s
  | .reportReceived frame => Sys2Proof.Machine.execReportReceived frame s
  | .bidReceived frame => Sys2Proof.Machine.execBidReceived frame s
  | .laneClaimReceived frame => Sys2Proof.Machine.execLaneClaimReceived frame s
  | .laneFreeReceived frame => Sys2Proof.Machine.execLaneFreeReceived frame s
  | .requestAccepted frame => Sys2Proof.Machine.execRequestAccepted frame s
  | .dispense frame => Sys2Proof.Machine.execDispense frame s
  | .returnTablet frame => Sys2Proof.Machine.execReturnTablet frame s
  | .openBay => Sys2Proof.Machine.execOpenBay s
  | .openAll => Sys2Proof.Machine.execOpenAll s
  | .withdraw => Sys2Proof.Machine.execWithdraw s
  | .provision => Sys2Proof.Machine.execProvision s
  | .jobResult => Sys2Proof.Machine.execJobResult s
  | .tabletInfo => Sys2Proof.Machine.execTabletInfo s
  | .connectorCheck => Sys2Proof.Machine.execConnectorCheck s
  | .clearFault => Sys2Proof.Machine.execClearFault s
  | .queryBay => Sys2Proof.Machine.execQueryBay s
  | .queryJob => Sys2Proof.Machine.execQueryJob s
  | .queryPeers => Sys2Proof.Machine.execQueryPeers s
  | .queryShelf => Sys2Proof.Machine.execQueryShelf s
  | .fetchLog => Sys2Proof.Machine.execFetchLog s
  | .restart => Sys2Proof.Machine.execRestart s
  | .settings => Sys2Proof.Machine.execSettings s
  | .settingsClose => Sys2Proof.Machine.execSettingsClose s

end Sys2Proof.Machine
end

