-- ==== Sys2Proof/Safety.lean ====
section
/-! DEFINITION. What counts as a safe state of the part, in the terms that claims use: the invariants that the
manual's rules state of the bay records, the queues, the release log and the allotments, and what the units that
are told of a change in a bay's record may alter. -/

namespace Sys2Proof.Machine

/-! ### What the units told of a change may alter -/

/-- Two bay records differ at most in what the bid unit and the lane unit write, and in the provisioned flag that
a job's ending hands on: the slot of the job table, the reservation, the crosspoint selection, the provisioned
flag (R1, R13, R16). -/
def BayRecord.UnitsOnly (r t : BayRecord) : Prop :=
  t = { r with
    slot := t.slot
    reservation := t.reservation
    out := { r.out with crosspoint := t.out.crosspoint }
    charge := { r.charge with provisioned := t.charge.provisioned } }

/-- The frames that the units' own operations leave in the transmit queue: all but FLOW, BID and LANE CLAIM. -/
def TxFrame.stays : TxFrame → Bool
  | .hold _ | .resume _ | .bid _ | .claim _ _ => false
  | .free _ | .answer _ _ | .report _ | .summary _ | .logPart1 _ _ | .logPart2 _ _ | .logEmpty _ _ _ => true

/-- Two states differ at most in what the bid unit and the lane unit write when they are told of a change (R47,
R107, R141), and in the transmit queue and the holding state that their frames move; no frame but a FLOW, a BID and a LANE CLAIM
leaves the queue. -/
def State.UnitsOnly (s t : State) : Prop :=
  (∀ b, (s.bay b).UnitsOnly (t.bay b)) ∧
  (∀ e ∈ s.bus.txq, e.frame.stays → e ∈ t.bus.txq) ∧
  t = { s with
    bays := t.bays
    bids := t.bids
    lanes := t.lanes
    bus := { s.bus with txq := t.bus.txq, holding := t.bus.holding } }

/-! ### Invariants -/

/-- R12, R107: a bay's lock items fit its lock state: the latch is energized, and the grant window runs, in GRANTED
alone; the baseline is present while the door is open; a grant stands in GRANTED and in neither SECURED nor FORCED;
the ajar timer runs in OPEN alone; a removal note stands only while the door is open. -/
def BayRecord.lockFits (r : BayRecord) : Bool :=
  r.out.latch == (r.lock.state == .granted) &&
  r.lock.window.isSome == (r.lock.state == .granted) &&
  r.lock.baseline.isSome == r.lock.state.doorOpen &&
  (r.lock.state != .granted || r.lock.grant.isSome) &&
  (!(r.lock.state == .secured || r.lock.state == .forced) || r.lock.grant.isNone) &&
  (r.lock.ajar.isNone || r.lock.state == .opened) &&
  (r.lock.note.isNone || r.lock.state.doorOpen)

/-- R12, R107: every bay's lock items fit its lock state. -/
def State.LocksFit (s : State) : Prop := ∀ b, (s.bay b).lockFits = true

/-- R33, R36, R54: a bay's stage outputs fit its charge state: the stage enable follows the state, the stage current
limit is the limit field, which is 0 with the stage off and otherwise at most the allotted limit; both limits are
multiples of 10 mA and at most 3000 mA. -/
def BayRecord.stageFits (r : BayRecord) : Bool :=
  r.out.stageEnable == r.charge.state.stageOn &&
  r.out.stageLimit == r.charge.limit &&
  (r.charge.state.stageOn || r.charge.limit == 0) &&
  decide (r.charge.limit ≤ r.charge.allotted) && decide (r.charge.allotted ≤ 3000) &&
  r.charge.limit % 10 == 0 && r.charge.allotted % 10 == 0

/-- R33, R54: every bay's stage outputs fit its charge state. -/
def State.StagesFit (s : State) : Prop := ∀ b, (s.bay b).stageFits = true

/-- R40, R41, R57: a bay's level, when present, lies in 0..1000, and is 1000 only while the bay is in MAINTAIN, where it
is present. -/
def BayRecord.levelFits (r : BayRecord) : Bool :=
  (r.charge.level.all fun l => l < 1000 || (l == 1000 && r.charge.state == .maintain)) &&
  (r.charge.state != .maintain || r.charge.level.isSome)

/-- R57: every bay's level lies in its range. -/
def State.LevelsFit (s : State) : Prop := ∀ b, (s.bay b).levelFits = true

/-- R70, R71, R73: a bay's fault score and retry count lie in their ranges. -/
def State.CountsFit (s : State) : Prop := ∀ b, (s.bay b).prot.score ≤ 15 ∧ (s.bay b).prot.retryCount ≤ 3

/-- R14: no two bays hold the same tablet tag, and no two the same departed tag. -/
def State.TagsFit (s : State) : Prop := ∀ b c : Bay, b ≠ c → ∀ v : Tag,
  ((s.bay b).charge.tag = some v → (s.bay c).charge.tag ≠ some v) ∧
  ((s.bay b).charge.departed = some v → (s.bay c).charge.departed ≠ some v)

/-- R134, R176, R180: the bid list, the transmit queue and the request queue hold no more than their capacities. -/
def State.QueuesFit (s : State) : Prop := s.bids.length ≤ 4 ∧ s.bus.txq.length ≤ 8 ∧ s.bus.reqq.length ≤ 12

/-- R128: records numbered consecutively (mod 65536) from the oldest to the newest, up to the next record number. -/
def numbered : List LogRecord → Nat → Bool
  | [], _ => true
  | r :: rs, next => (r.number + rs.length + 1) % 65536 == next && r.number < 65536 && numbered rs next

/-- R128: the release log holds at most 16 records, whose record numbers are consecutive (mod 65536) from oldest to
newest. -/
def State.LogFits (s : State) : Prop :=
  s.custody.log.length ≤ 16 ∧ s.custody.nextNumber < 65536 ∧ numbered s.custody.log s.custody.nextNumber = true

/-- The sum of the station's per-bay allotments, in W (R53). -/
def State.allotted (s : State) : Nat :=
  sumBays fun b => (s.bay b).charge.keep + (s.bay b).charge.urgent + (s.bay b).charge.normal

/-- R95, R97, R176, R178: the applied ceiling never exceeds the last transmitted one, nor, while the station is muted,
the orphan allowance; a muted station's transmit queue is empty; before RUN the applied ceiling is 0, and only ANSWER
frames are queued. -/
def State.CeilingFits (s : State) : Prop :=
  s.share.applied ≤ s.share.xt ∧
  (s.bus.muted = true → s.share.applied ≤ orphanOf s.force ∧ s.bus.txq = []) ∧
  (s.running = false → s.share.applied = 0 ∧ ∀ e ∈ s.bus.txq, e.frame.cls = 4)

/-- R51, R53: the sum of the per-bay allotments does not exceed the applied ceiling, which fits; before RUN it is 0. -/
def State.AllotmentsFit (s : State) : Prop :=
  s.allotted ≤ s.share.applied ∧ (s.running = false → s.allotted = 0) ∧ s.CeilingFits

/-- R134: at most one bid-list entry for each request. -/
def State.BidsDistinct (s : State) : Prop :=
  s.bids.Pairwise fun e x => e.isFor x.source x.request = false

/-- The unsent frames of a class in the transmit queue (R176). -/
def State.unsent (s : State) (cls : Nat) : List TxEntry := s.bus.txq.filter fun e => !e.sending && e.frame.cls == cls

/-- R174, R176, R177: the transmit queue is ordered by class; a frame is in an attempt only while the line carries one,
and at most one is; at most one unsent FLOW and one unsent REPORT are queued. -/
def State.TransmitFits (s : State) : Prop :=
  s.bus.txq.Pairwise (fun e f => e.frame.cls ≤ f.frame.cls) ∧
  (s.bus.line ≠ .attempt → ∀ e ∈ s.bus.txq, e.sending = false) ∧
  (s.bus.txq.filter (·.sending)).length ≤ 1 ∧ (s.unsent 0).length ≤ 1 ∧ (s.unsent 5).length ≤ 1

/-- R174: one attempt at most, and none unless the line carries it. -/
def State.OneAttempt (s : State) : Prop :=
  (s.bus.line ≠ .attempt → ∀ e ∈ s.bus.txq, e.sending = false) ∧ (s.bus.txq.filter (·.sending)).length ≤ 1

/-- R150, R191: before RUN there is no job, no bid, no claim and no connection, and only ANSWER frames are queued. -/
def State.UnitsAtRest (s : State) : Prop :=
  (∀ b, (s.bay b).slot = none ∧ (s.bay b).reservation = none ∧ (s.bay b).out.crosspoint = none) ∧ s.bids = [] ∧
  s.lanes.claim = none ∧ ∀ e ∈ s.bus.txq, e.frame.cls = 4

/-- R155: a bay stands on a lane exactly while its job is CONNECTED there, one bay at most to a lane, and the lane's busy
line is asserted exactly then. R156: a claim is in flight exactly while its bay's job is CLAIMING. R157, R159: no bay is
connected on the lane of a claim; the station's queued CLAIM is the claim's, unless its withdrawal waits for the end of
its attempt, in which case the claim does not settle. R163: a job is CONNECTED only while its bay's keep allotment is at least
the profile's awake power. -/
def State.LanesFit (s : State) : Prop :=
  (∀ b x, (s.bay b).out.crosspoint = some x ↔ ∃ j, (s.bay b).slot = some j ∧ j.state = .connected ∧ j.lane = some x) ∧
  (∀ b j, (s.bay b).slot = some j → j.state = .connected → j.lane ≠ none) ∧
  (∀ b c x, (s.bay b).out.crosspoint = some x → (s.bay c).out.crosspoint = some x → b = c) ∧
  (∀ x : Lane, s.lanes.drive[x] = true ↔ ∃ b, (s.bay b).out.crosspoint = some x) ∧
  (∀ b, (s.bay b).jobState = some .claiming ↔ ∃ ph, s.lanes.claim = some ⟨b, ph⟩) ∧
  (∀ b (x : Lane), (s.lanes.claim = some ⟨b, .claimQueued x⟩ ∨ ∃ n, s.lanes.claim = some ⟨b, .settling x n⟩) →
    s.lanes.drive[x] = false) ∧
  (∀ e ∈ s.bus.txq, ∀ (x : Lane) b, e.frame = .claim x b →
    (e.doomed = false → s.lanes.claim = some ⟨b, .claimQueued x⟩) ∧
    (e.doomed = true → e.sending = true ∧ s.lanes.drive[x] = false ∧ ∀ c y n, s.lanes.claim ≠ some ⟨c, .settling y n⟩)) ∧
  (s.bus.txq.filter fun e => e.frame.isClaim && !e.doomed).length ≤ 1 ∧ s.OneAttempt ∧
  (s.running = false → s.UnitsAtRest) ∧
  ∀ b, (s.bay b).jobState = some .connected → s.powered b = true

/-- R142: the bay of a bid-list entry meets the conditions of its reservation: those of R137, R139 or R140 for the entry's
kind and tag, less "not bid-reserved", with the job absent or ENDED for every kind. A DISPENSE of score 255 is one that
carried a tag, since every other score is at most 254 (R138, R139). -/
def State.Serves (s : State) (e : BidEntry) : Prop :=
  let r := s.bay e.bay
  r.populated = true ∧ r.lock.state = .secured ∧ r.hasLiveJob = false ∧
  (e.kind = .returnTablet → r.charge.state = .empty) ∧
  (e.kind = .dispense →
    r.presence.value = true ∧ r.charge.state ∈ [.softstart, .bulk, .taper, .maintain, .paused] ∧
    (e.score = 255 ∨ r.charge.state = .maintain ∨ r.charge.level.any (e.minLevel * 10 ≤ ·) = true))

/-- R134: a bid-reserved bay is SECURED, has no live job, and is reserved by one entry, whose void mark is clear; an entry
without the void mark holds its bay's reservation; there is one entry at most for a request, and no bay is named by two
that are not void. R142: the bay of an entry without the void mark meets the conditions of its reservation. R48, R140, R166: a live job stands only on a populated bay with a tablet, and in RUN a populated bay
with a tablet is not EMPTY. R153, R159: a job is CLAIMING only while it is ready. The lanes fit too: a claim in flight is of
a live job. -/
def State.ReservationsFit (s : State) : Prop :=
  s.LanesFit ∧
  (∀ b v, (s.bay b).reservation = some v → (s.bay b).lock.state = .secured ∧ (s.bay b).hasLiveJob = false ∧
    ∃ e ∈ s.bids, e.source = v.source ∧ e.request = v.request ∧ e.bay = b ∧ e.void = false) ∧
  (∀ e ∈ s.bids, e.void = false →
    (s.bay e.bay).reservation = some { source := e.source, request := e.request } ∧ s.Serves e) ∧
  s.BidsDistinct ∧ s.bids.Pairwise (fun e x => e.void = false → x.void = false → e.bay ≠ x.bay) ∧
  (∀ b, (s.bay b).hasLiveJob = true → (s.bay b).populated = true ∧ (s.bay b).presence.value = true) ∧
  (s.running = true → ∀ b, (s.bay b).populated = true → (s.bay b).presence.value = true → (s.bay b).charge.state ≠ .empty) ∧
  ∀ b, (s.bay b).jobState = some .claiming → s.ready b = true

/-! ### When an event can occur -/

/-- R172: the station can hear a frame whose checks and routing come out as `r`. -/
def State.CanHear (s : State) (f : RxFrame) (r : Route) : Prop :=
  s.awake = true ∧ (s.bus.line = .idle ∨ s.bus.line = .receiving) ∧ f.route s.startup.node = r

/-- R170: the bits of a field in the order sent, most significant first. -/
def fieldBits {w : Nat} (v : BitVec w) : List Bool := (List.range w).map v.getMsbD

/-- R170: the CRC-8 of bits in the order sent: from FFh, shifted left by one place for each, with 9Bh exclusive-ored in where
the bit that left the register differs from it. -/
def crcOf (bits : List Bool) : Byte :=
  bits.foldl (fun reg bit => if reg.msb = bit then reg <<< 1 else (reg <<< 1) ^^^ 0x9B#8) 0xFF#8

/-- R172: a frame passes every check but the sixth, that of its destination: its length, its known class and kind (R171), the
length of its layout (R171, R173), its CRC (R170), its end bits, its source, which is another node's and not 0, and a LANE
frame's lane, whose place in its payload byte is the model's choice (log entry 8). -/
def State.Intact (s : State) (f : RxFrame) : Prop :=
  f.len.toNat ≤ 8 ∧
  (∃ kinds, [2, 2, 2, 15, 6, 1, 1, 3][f.cls.toNat]? = some kinds ∧ 1 ≤ f.kind.toNat ∧ f.kind.toNat ≤ kinds) ∧
  ((f.cls = 1#3 → f.len = 6#4) ∧ (f.cls = 2#3 → f.len = 1#4) ∧ (f.cls = 5#3 → f.len = 8#4) ∧
    (f.cls = 7#3 → f.len = if f.kind = 3#4 then 3#4 else 8#4)) ∧
  crcOf (fieldBits f.cls ++ fieldBits f.key ++ fieldBits f.src ++ fieldBits f.dst ++ fieldBits f.kind ++ fieldBits f.len ++
    f.payload.flatMap fieldBits) = f.crc ∧
  (f.end1 = true ∧ f.end2 = true) ∧ f.src ≠ s.startup.node ∧ f.src ≠ 0#4 ∧
  (f.cls = 2#3 → 1 ≤ f.laneByteLane ∧ f.laneByteLane ≤ 4 ∧ f.laneByteLane = f.key.toNat)

/-- R183: the handler has taken a request of a kind. -/
def State.HasTaken (s : State) (k : RequestKind) : Prop := ∃ q, s.handler.taken = some q ∧ q.kind = k

/-- R185: the handler has taken a QUERY of a target. -/
def State.HasTakenQuery (s : State) (p : Option QueryTarget → Prop) : Prop :=
  ∃ q, s.handler.taken = some q ∧ q.kind = .query ∧ p q.target

/-- R86: another station's entry is in a state whose threshold the latest tick found reached. -/
def State.PeerDue (s : State) (m : Node) (st : PeerState) : Prop :=
  s.awake = true ∧ m ≠ 0#4 ∧ m ≠ s.startup.node ∧ (s.peer (nodeIndex m)).state = st ∧ (s.peer (nodeIndex m)).due = true

/-- When the event that a command names can occur in a state. -/
def State.CanOccur (s : State) : Instr → Prop
  | .powerOnReset | .pinReset | .busyLineChange _ _ => True
  | .resetEnd _ _ => s.startup.phase = .resetting
  | .tick _ => s.startup.phase ≠ .resetting
  | .uptimeSecond => s.startup.phase ≠ .resetting ∧ s.pacing.subTicks = 1000
  | .firstTickAfterReset => s.startup.phase ≠ .resetting ∧ s.pacing.firstTick = .due
  | .presenceChange b => s.startup.phase ≠ .resetting ∧ 50 ≤ (s.bay b).presence.count
  | .doorChange b => s.startup.phase ≠ .resetting ∧ 20 ≤ (s.bay b).door.count
  | .scanPassStart => s.startup.phase ≠ .resetting ∧ s.scanner.pass = none ∧ s.scanner.divider = scanPeriodOf s.force
  | .conversionEnd _ => s.startup.phase ≠ .resetting ∧ s.scanner.pass ≠ none
  | .shortDetected b edge high =>
    s.startup.phase = .run ∧ (s.bay b).charge.state.stageOn = true ∧ s.pacing.prescaler ≤ edge ∧
    ∃ blank, (s.bay b).prot.blankEnd = some blank ∧
      filterEdgesOf s.force ≤ (if edge ≤ high then (s.bay b).prot.filterCount + edge else high) ∧
      blank + filterEdgesOf s.force ≤ s.pacing.ticks * 8000 + edge + 1
  | .detectTimerExpiry b => (s.bay b).charge.state = .detect ∧ (s.bay b).charge.detectTimer = some 0
  | .retryDelayExpiry b => (s.bay b).charge.state = .retryWait ∧ (s.bay b).prot.retryTimer = some 0
  | .chargeTimeExceeded b =>
    (s.bay b).charge.state.timeCounts = true ∧ (s.bay b).charge.exceeded = false ∧
    (s.profile b).maxChargeTime * 60000 < (s.bay b).charge.time
  | .grantWindowExpiry b => (s.bay b).lock.state = .granted ∧ (s.bay b).lock.window = some 0
  | .ajarTimerExpiry b => (s.bay b).lock.state = .opened ∧ (s.bay b).lock.ajar = some 0
  | .bidWindowExpiry source request => ∃ e, s.bidFor source request = some e ∧ e.window = some 0
  | .reportPeriodExpiry => s.startup.phase = .run ∧ s.share.reportTimer = some 0
  | .peerSilent m => s.PeerDue m .live
  | .peerLost m => s.PeerDue m .silent
  | .settleExpiry => ∃ b x, s.lanes.claim = some ⟨b, .settling x 0⟩
  | .jobTimeLimitExpiry b => ∃ j, (s.bay b).slot = some j ∧ j.state ≠ .ended ∧ j.timeLimit * 60000 ≤ j.elapsed
  | .summaryTimerExpiry => s.startup.phase = .run ∧ s.handler.summary = some 0
  | .handlingIntervalExpiry => s.handler.interval = some 0 ∧ s.handler.taken = none
  | .firstFrameTimerExpiry => s.startup.phase = .config ∧ s.startup.firstFrame = some 0
  | .closeTimerExpiry => s.startup.phase = .config ∧ s.startup.close = some 0
  | .lineIdle => s.startup.phase ≠ .resetting ∧ s.bus.line = .gap
  | .attemptStart _ => s.awake = true ∧ s.bus.muted = false ∧ s.bus.line = .idle ∧ s.bus.txq ≠ []
  | .arbitrationLost => s.bus.line = .attempt
  | .bitError edge => s.bus.line = .attempt ∧ s.pacing.prescaler ≤ edge
  | .transmissionCompleted edge => s.bus.line = .attempt ∧ s.pacing.prescaler ≤ edge ∧ ∃ e ∈ s.bus.txq, e.sending = true
  | .frameDropped f => s.CanHear f .dropped
  | .framePassedOver f => s.CanHear f .passedOver
  | .frameIgnored f => s.CanHear f .ignored
  | .reportReceived f => s.CanHear f .report
  | .bidReceived f => s.CanHear f .bid
  | .laneClaimReceived f => s.CanHear f .laneClaim
  | .laneFreeReceived f => s.CanHear f .laneFree
  | .requestAccepted f => ∃ k, s.CanHear f (.request k) ∧ k ≠ .dispense ∧ k ≠ .returnTablet
  | .dispense f => s.CanHear f (.request .dispense)
  | .returnTablet f => s.CanHear f (.request .returnTablet)
  | .openBay => s.HasTaken .openBay
  | .openAll => s.HasTaken .openAll
  | .withdraw => s.HasTaken .withdraw
  | .provision => s.HasTaken .provision
  | .jobResult => s.HasTaken .jobResult
  | .tabletInfo => s.HasTaken .tabletInfo
  | .connectorCheck => s.HasTaken .connectorCheck
  | .clearFault => s.HasTaken .clearFault
  | .queryBay => s.HasTakenQuery fun t => t = some .bay ∨ t = none
  | .queryJob => s.HasTakenQuery (· = some .job)
  | .queryPeers => s.HasTakenQuery (· = some .peers)
  | .queryShelf => s.HasTakenQuery (· = some .shelf)
  | .fetchLog => s.HasTaken .fetchLog
  | .restart => s.HasTaken .restart
  | .settings => s.HasTaken .settings
  | .settingsClose => s.HasTaken .settingsClose

/-! ### Forms that statements share -/

/-- The command answers a next state, which is `u` but for what the units told of the change may alter. -/
def RunsTo (c : Instr) (s u : State) : Prop := ∃ t, exec c s = .next t ∧ u.UnitsOnly t

/-- R10: the bay's change events are handed to the blocks: in CONFIG those of every bay, in RUN those of a populated
bay. -/
def State.HandsOn (s : State) (b : Bay) : Prop :=
  s.startup.phase = .config ∨ (s.startup.phase = .run ∧ (s.bay b).populated = true)

/-- R33: a bay's outputs with its stage off. -/
def Outputs.stageOff (o : Outputs) : Outputs := { o with stageEnable := false, stageLimit := 0 }

/-- R42, R43, R45: the charge controller's items of a bay in a stage-off state: limit 0, the counts and runs of R38 to
R40 cleared, the DETECT timer stopped. -/
def Charge.stageOff (c : Charge) (st : ChargeState) : Charge :=
  { c with state := st, limit := 0, detectTimer := none, lowCount := 0, returnCount := 0, fullRun := none, highRun := none }

/-- R62: the detectors of a bay whose stage is off. -/
def Protection.unarmed (p : Protection) : Protection :=
  { p with filterCount := 0, overload := 0, overvolt := 0, backfeed := 0, blankEnd := none }

/-- R31: a pending measurement ends with NO_READING, which is stored and clears the connector mark. -/
def Protection.unmeasured (p : Protection) (pending : Bool) : Protection :=
  if pending then { p with result := some 65535, mark := false } else p

/-- R41: the level with which a bay leaves MAINTAIN. -/
def Charge.leftLevel (c : Charge) : Option Nat :=
  if c.state = .maintain ∧ c.level = some 1000 then some 990 else c.level

/-- R12, R110 note 6: the lock items of a bay made SECURED. -/
def Lock.closed : Lock := { state := .secured, grant := none, baseline := none, window := none, ajar := none, note := none }

/-- The taken request, with what its taking does to the open-all confirmation (R125, R126, R183). -/
def State.afterTaking (s : State) (q : Request) : State :=
  let t := { s with handler := { s.handler with taken := none } }
  if t.running then t.confirm q.kind q.src q.number else t

/-- R123, R183, R184: the handler has taken `q`, of kind `k`, in RUN, from a source that the authority table admits,
with a length its kind takes. -/
def State.Admits (s : State) (q : Request) (k : RequestKind) : Prop :=
  s.startup.phase = .run ∧ s.handler.taken = some q ∧ q.kind = k ∧ s.permitted k q.src = true ∧ q.lengthFits = true

/-- The transmit queue takes an ANSWER, and has `n` places free. -/
def State.HasRoom (s : State) (n : Nat) : Prop :=
  s.awake = true ∧ s.bus.muted = false ∧ s.bus.txq.length + n ≤ 8

/-- The transmit queue holds a frame whose transmission has not begun. -/
def State.Queued (s : State) (f : TxFrame) : Prop := ∃ e ∈ s.bus.txq, e.frame = f ∧ e.sending = false

/-- R155: lane `x` given up: no crosspoint stands on it, its busy line is released and the station does not hold it; where the
station held it, a LANE FREE for it is queued, in RUN and with room for `room` frames in the transmit queue. -/
def State.LaneGivenUp (s t : State) (x : Lane) (room : Nat) : Prop :=
  (∀ c, (t.bay c).out.crosspoint ≠ some x) ∧ t.lanes.drive[x] = false ∧ t.holds x = false ∧
  (s.running = true → s.HasRoom room → s.holds x = true → t.Queued (.free x))

/-- R159: bay `b`'s claim in flight, which stood in phase `ph`, abandoned by its phase: a CLAIM not in an attempt has left the
transmit queue, the withdrawal of one in an attempt waits for its end, and the lane of a SETTLING claim is given up. -/
def State.ClaimAbandoned (s t : State) (b : Bay) (ph : ClaimPhase) (room : Nat) : Prop :=
  (∀ p, t.lanes.claim ≠ some ⟨b, p⟩) ∧
  (∀ x, ph = .claimQueued x →
    (∀ e ∈ t.bus.txq, ∀ y, e.frame = .claim y b → e.sending = true) ∧
    ∀ e ∈ t.bus.txq, e.frame.isClaim = true → e.sending = true → e.doomed = true) ∧
  ∀ x n, ph = .settling x n → s.LaneGivenUp t x room

/-- R155, R159, R167 step 1: what bay `b`'s job `j` leaves behind on the lanes: a CONNECTED job's lane is given up, a CLAIMING
job's claim abandoned. -/
def State.LanesLeft (s t : State) (b : Bay) (j : Job) (room : Nat) : Prop :=
  (∀ x, j.state = .connected → j.lane = some x → s.LaneGivenUp t x room) ∧
  ∀ ph, j.state = .claiming → s.lanes.claim = some ⟨b, ph⟩ → s.ClaimAbandoned t b ph room

/-- R16, R167: what an ending leaves of a live job, in the slot, in the provisioned flag and on the lanes. -/
def State.JobEnded (s t : State) (b : Bay) (j : Job) (outcome : JobOutcome) : Prop :=
  (t.bay b).slot = some { j with state := .ended, outcome := some outcome, lane := none, unread := true } ∧
  (t.bay b).charge.provisioned =
    (if j.kind = .identify then (s.bay b).charge.provisioned
     else decide (outcome = .done ∧ (j.kind = .image ∨ j.kind = .update))) ∧
  s.LanesLeft t b j 1

/-- R163: what a suspension leaves of a CONNECTED job: its lane given up, its suspension count one higher, and the job
SUSPENDED, or, at the third, ENDED ABORTED. -/
def State.JobSuspended (s t : State) (b : Bay) (j : Job) (room : Nat) : Prop :=
  (∀ x, j.lane = some x → s.LaneGivenUp t x room) ∧
  let suspended := { j with state := .suspended, lane := none, suspensions := j.suspensions + 1 }
  if j.suspensions < 2 then
    (t.bay b).slot = some suspended ∧ (t.bay b).charge.provisioned = (s.bay b).charge.provisioned
  else
    (t.bay b).slot = some { suspended with state := .ended, outcome := some .aborted, unread := true } ∧
    (t.bay b).charge.provisioned = (decide (j.kind = .identify) && (s.bay b).charge.provisioned)

/-- R153: bay `b`'s job has entered WAIT_LANE, and stays there, or has been chosen at the same event and is CLAIMING. -/
def State.WaitsForLane (t : State) (b : Bay) (j : Job) : Prop :=
  (t.bay b).slot = some { j with state := .waitLane } ∨
  (t.bay b).slot = some { j with state := .claiming } ∧ ∃ ph, t.lanes.claim = some ⟨b, ph⟩

/-- R152: what a QUEUED job enters at the event at which its bay charges. -/
def State.LeavesQueued (t : State) (b : Bay) (j : Job) : Prop :=
  if j.kind = .identify ∨ t.levelMet b = true then t.WaitsForLane b j
  else (t.bay b).slot = some { j with state := .waitLevel }

/-- R63, R46, R64: the commands at which a fault may be decided on bay `b`. -/
def State.MayFault (s : State) (c : Instr) (b : Bay) : Prop :=
  (∃ edge high, c = .shortDetected b edge high) ∨ c = .chargeTimeExceeded b ∨
  ∃ code p, c = .conversionEnd code ∧ s.awake = true ∧ s.scanner.pass = some p ∧ p.next = voltageChannel b

/-- R70: the fault score after a fault under a policy other than WARN. -/
def Protection.scoreAfter (p : Protection) : Nat := min 15 (p.score + 2)

/-- R70, R71: the retry count after a fault under a policy other than WARN. -/
def Protection.retriesAfter (p : Protection) (policy : Policy) : Nat :=
  if policy = .retry then min 3 (p.retryCount + 1) else p.retryCount

/-- R45, R70: the charge state that a fault under a policy other than WARN leads to. -/
def Protection.stateAfter (p : Protection) (policy : Policy) (quarantineLimit : Nat) : ChargeState :=
  if quarantineLimit ≤ p.scoreAfter then .quarantined
  else if policy = .retry ∧ p.retriesAfter policy ≤ 2 then .retryWait else .faulted

/-- R41, R45, R62, R69, R70: a bay record after a fault decided under a policy other than WARN. -/
def BayRecord.Faulted (r t : BayRecord) (policy : Policy) (quarantineLimit retryDelay : Nat) (f : LastFault) : Prop :=
  let st := r.prot.stateAfter policy quarantineLimit
  t = { r with
    charge := { r.charge.stageOff st with level := r.charge.leftLevel }
    out := r.out.stageOff
    measure := none
    prot := { (r.prot.unmeasured r.measure.isSome).unarmed with
      lastFault := some f
      score := r.prot.scoreAfter
      retryCount := r.prot.retriesAfter policy
      latched := r.prot.latched || (policy == .latch && st == .faulted)
      retryTimer := if st = .retryWait then some retryDelay else r.prot.retryTimer } }

/-- R21, R25: the conversion that ends is bay `b`'s voltage conversion, and the latest code of its current channel is
`current`; the part publishes the sample. -/
def State.Samples (s : State) (b : Bay) (p : Pass) (current : BitVec 12) : Prop :=
  s.awake = true ∧ s.scanner.pass = some p ∧ p.next = voltageChannel b ∧
  s.scanner.results[currentChannel b] = some current

/-- R30: whether a sample of a pass takes the bay's pending connector measurement. -/
def BayRecord.readingDue (r : BayRecord) (p : Pass) : Bool :=
  (r.charge.state == .softstart || r.charge.state == .bulk) && r.measure.any fun start => start + 200 ≤ p.tick

/-- R30: the connector reading in mΩ, `v` the profile's bay voltage; 65535 is NO_READING. -/
def readingOf (v mV : Nat) (mA : Int) : Nat :=
  if mA < 200 then 65535 else min 65534 ((v - mV) * 1000 / mA.toNat)

/-- R62, R64, R65, R68: the fault that a sample raises on a bay, with its measured value: the first completed run of an
armed bay in the order OVERVOLT, BACKFEED, OVERLOAD, and then a connector reading above the limit. -/
def BayRecord.sampleFault (r : BayRecord) (p : Pass) (v limit mV : Nat) (mA : Int) : Option (FaultClass × Int) :=
  if r.charge.state.stageOn = false then none
  else if v + v / 10 < mV ∧ 2 ≤ r.prot.overvolt then some (.overvolt, mV)
  else if mA < -100 ∧ 2 ≤ r.prot.backfeed then some (.backfeed, mA)
  else if (r.notedLimit : Int) + 300 < mA ∧ 4 ≤ r.prot.overload then some (.overload, mA)
  else if r.readingDue p = true ∧ readingOf v mV mA ≠ 65535 ∧ limit < readingOf v mV mA
  then some (.connector, (readingOf v mV mA : Nat))
  else none

/-- R70: a sample that switches no stage off: it raises no fault, or one whose policy is WARN. Runs may start and go on. -/
def State.Quiet (s : State) (b : Bay) (p : Pass) (mV : Nat) (mA : Int) : Prop :=
  ∀ f, (s.bay b).sampleFault p (s.profile b).voltage (connectorLimitOf s.force) mV mA = some f →
    policyOf s.force f.1 = .warn

/-- R39, R40: the sample does not take a TAPER bay to MAINTAIN; `full` is the profile's full current. -/
def Charge.staysBelowFull (c : Charge) (p : Pass) (full mA : Int) : Prop :=
  c.state = .taper → full ≤ mA ∨ p.tick < c.fullRun.getD p.tick + 60000

/-- R40: the sample does not take a MAINTAIN bay to TAPER; `full` is the profile's full current. -/
def Charge.staysFull (c : Charge) (p : Pass) (full mA : Int) : Prop :=
  c.state = .maintain → mA ≤ 2 * full ∨ p.tick < c.highRun.getD p.tick + 60000

/-- R124, R126, R146: a bay record granted. -/
def BayRecord.grantedFor (r : BayRecord) (window : Nat) (g : Grant) : BayRecord :=
  { r with
    lock := { r.lock with state := .granted, grant := some g, window := some window }
    out := { r.out with latch := true } }

/-- R142, R144: an entry's bid is gone: entry, reservation and queued frame. -/
def State.BidGone (s t : State) (e : BidEntry) : Prop :=
  t.bids = s.bids.filter (fun x => !x.isFor e.source e.request) ∧
  ((s.bay e.bay).reservation = some { source := e.source, request := e.request } → (t.bay e.bay).reservation = none) ∧
  ∀ x ∈ t.bus.txq, x.sending = false → x.frame.isBidFor e.source e.request = false

/-- R144, R157, R159, R174, R177: the attempt in progress has ended without completion: its frame stays in the queue, no longer
in an attempt, but for a REPORT or FLOW behind which a newer one waits, which stands in its place, a LANE CLAIM whose
withdrawal waited for this end, and a BID whose entry is void or whose withdrawal waited; the entry of a BID that stays is
QUEUED again. -/
def State.AttemptEnded (s t : State) : Prop :=
  (∀ x ∈ t.bus.txq, x.sending = false) ∧
  ∀ e, s.bus.txq.find? (·.sending) = some e →
    let overtaken := (e.frame.cls = 0 ∨ e.frame.cls = 5) ∧ s.unsent e.frame.cls ≠ []
    (e.doomed = false → ¬ overtaken → e.frame.cls ≠ 1 → { e with sending := false } ∈ t.bus.txq) ∧
    (overtaken → e.frame.cls = 5 → t.unsent 5 = s.unsent 5) ∧
    (overtaken → e.frame.cls = 0 → t.unsent 0 ≠ [] ∧
      (s.bus.holding = false ∨ 3 < s.bus.reqq.length → t.unsent 0 = s.unsent 0)) ∧
    (e.doomed = true → ∀ x ∈ t.bus.txq, x.doomed = true → x ∈ s.bus.txq) ∧
    ∀ b x, e.frame = .bid b → s.bidFor b.source b.request = some x → e.doomed = false →
      (∀ y ∈ s.bus.txq, y.frame.isBidFor b.source b.request = true → y.sending = true) →
      ((x.void = true ∨ x.withdrawal = true) → s.BidGone t x) ∧
      (x.void = false → x.withdrawal = false → { e with sending := false } ∈ t.bus.txq ∧
        t.bids = s.bids.map fun y => if y.isFor b.source b.request then { y with sending := false } else y)

/-- R136: an accepted DISPENSE or RETURN frame that the bid unit looks for a bay for, and that finds a place for a BID. -/
def State.MayBidFor (s : State) (f : RxFrame) (k : RequestKind) : Prop :=
  (s.bus.line = .idle ∨ s.bus.line = .receiving) ∧ f.route s.startup.node = .request k ∧ s.startup.phase = .run ∧
  s.bus.muted = false ∧ s.authorized f.src .panel = true ∧ s.bidFor f.src (BitVec.ofNat 16 (wordAt f.payload 0)) = none ∧
  s.bids.length < 4 ∧ s.bus.txq.length < 8

/-- R141: the entry, the reservation and the BID frame of a bid placed for a request frame. -/
def State.BidPlaced (s t : State) (f : RxFrame) (kind : BidKind) (b : Bay) (score minLevel : Nat) (tagMatch : Bool) : Prop :=
  let n : ReqNo := BitVec.ofNat 16 (wordAt f.payload 0)
  t.bids = s.bids ++ [{ source := f.src, request := n, kind := kind, bay := b, score := score,
                        window := some (bidWindowOf s.force), sending := false, void := false, minLevel := minLevel,
                        withdrawal := false }] ∧
  (t.bay b).reservation = some { source := f.src, request := n } ∧
  t.Queued (.bid { kind := kind, source := f.src, request := n, bay := b, score := score,
                   level := (s.bay b).charge.level, tagMatch := tagMatch })

/-- R137: a bay eligible for a DISPENSE without a tag. -/
def State.MayDispense (s : State) (minLevel : Nat) (b : Bay) : Prop :=
  let r := s.bay b
  r.populated = true ∧ r.presence.value = true ∧ r.lock.state = .secured ∧ (∀ j, r.slot = some j → j.state = .ended) ∧
  (r.charge.state = .softstart ∨ r.charge.state = .bulk ∨ r.charge.state = .taper ∨ r.charge.state = .maintain ∨
    r.charge.state = .paused) ∧
  (r.charge.state = .maintain ∨ ∃ l, r.charge.level = some l ∧ minLevel * 10 ≤ l) ∧ r.reservation = none

/-- R138: a bay's score for a DISPENSE without a tag. -/
def BayRecord.Score (r : BayRecord) (score : Nat) : Prop :=
  ∃ level, r.charge.level = some level ∧
    (score : Int) = max 1 (min 254 ((level / 5 : Nat) +
      (if r.charge.state = .maintain then 30 else 0) + (if r.charge.provisioned = true then 15 else 0) - 4 * r.prot.score))

/-- R140: a bay eligible for a RETURN. -/
def State.MayReturn (s : State) (b : Bay) : Prop :=
  let r := s.bay b
  r.populated = true ∧ r.charge.state = .empty ∧ r.lock.state = .secured ∧ r.reservation = none

/-- R139: a bay that a DISPENSE whose tag it holds may be bid for. -/
def State.MayDispenseTagged (s : State) (b : Bay) : Prop :=
  let r := s.bay b
  r.populated = true ∧ r.presence.value = true ∧ r.lock.state = .secured ∧ r.reservation = none ∧
  (∀ j, r.slot = some j → j.state ≠ .connected) ∧ r.charge.state ∈ [.softstart, .bulk, .taper, .maintain, .paused]

/-- R123, R136, R137, R139, R140, R184: the request frame, of kind `k`, is one for which the bid unit makes no bid. -/
def State.PassesOver (s : State) (f : RxFrame) (k : RequestKind) : Prop :=
  let untagged := if k = .dispense then 3 else 2
  let carried := tagAt f.payload untagged
  s.startup.phase ≠ .run ∨ s.bus.muted = true ∨ s.authorized f.src .panel = false ∨
  s.bidFor f.src (BitVec.ofNat 16 (wordAt f.payload 0)) ≠ none ∨ 4 ≤ s.bids.length ∨ 8 ≤ s.bus.txq.length ∨
  (f.payload.length ≠ untagged ∧ f.payload.length ≠ untagged + 4) ∨
  (k = .dispense ∧ f.payload.length = 3 ∧ ∀ b, ¬ s.MayDispense (min 100 (byteAt f.payload 2)) b) ∨
  (k = .dispense ∧ f.payload.length = 7 ∧ ∀ b, (s.bay b).charge.tag = some carried → ¬ s.MayDispenseTagged b) ∨
  (k = .returnTablet ∧ ∀ b, ¬ s.MayReturn b)

/-- R2, R3, R5, R6, R11 to R13, R29, R33, R34, R46, R62, R67, R76: what entry into RUN with the image `img` makes of bay `b`'s
record: the charge state by R3's table, as by a DETECT entry where it is DETECT; the stage off with limit 0, the crosspoint
open, the lock of an unpopulated bay made SECURED, no measurement pending, the detectors cleared, and the connector mark clear
but where a DETECT entry sets it. -/
def BayRecord.EnteredRun (img : Image) (b : Bay) (r t : BayRecord) : Prop :=
  let fitted := itemOf img (b.val + 1) = 1
  let st : ChargeState :=
    if ¬ fitted then .disabled
    else if r.prot.held = true then .quarantined
    else if r.prot.latched = true then .faulted
    else if r.presence.value = true then .detect else .empty
  (∀ p : Fin 4, itemOf img (b.val + 9) = p.val + 1 → t.profile = p) ∧
  t = { r with
    populated := decide fitted
    profile := t.profile
    charge := { r.charge.stageOff st with
      level := r.charge.leftLevel
      time := if st = .detect then 0 else r.charge.time
      exceeded := if st = .detect then false else r.charge.exceeded
      detectTimer := if st = .detect then some 500 else none }
    out := {
      stageEnable := false
      stageLimit := 0
      voltageSelect := if fitted then (profileOf img t.profile).voltage else r.out.voltageSelect
      latch := if fitted then r.out.latch else false
      crosspoint := none }
    lock := if fitted then r.lock else Lock.closed
    prot := { r.prot.unarmed with
      retryCount := 0
      retryTimer := none
      held := if fitted then false else r.prot.held
      mark := decide (st = .detect ∧ itemOf img 60 = 1) }
    measure := none }

/-- R3, R5, R6, R11, R20, R98, R101, R119, R187, R194: what entry into RUN does, with the defaulted flag it sets. -/
def State.EnteredRun (s t : State) (defaulted : Bool) : Prop :=
  t.startup = { s.startup with phase := .run, firstFrame := none, close := none, defaulted := defaulted } ∧
  t.scanner = { s.scanner with divider := 0 } ∧
  t.share = { s.share with warnRun := 0, tripRun := 0, reportTimer := some (itemOf s.startup.image 67) } ∧
  t.handler.summary = some 2000 ∧ t.custody = { s.custody with allSource := none, allCount := 0 } ∧
  t.pacing = s.pacing ∧ t.bus = s.bus ∧ t.inputs = s.inputs ∧ t.bids = [] ∧ t.lanes = { s.lanes with claim := none } ∧
  t.freeCount = s.freeCount ∧ t.pending = s.pending ∧ ∀ b, (s.bay b).EnteredRun s.startup.image b (t.bay b)

/-- R188: the attention code: the highest of the conditions that hold, 0 if none does. -/
def State.attentionCode (s : State) : Nat :=
  if s.startup.phase = .run ∧ ∃ b : Bay, (s.bay b).charge.state = .quarantined ∨
    (s.bay b).charge.state = .faulted ∧ (s.bay b).prot.latched = true then 1
  else if ∃ r ∈ s.custody.log, LogRecord.kind r = .forced then 2
  else if ∃ b : Bay, (s.bay b).lock.state = .ajar then 3
  else if 13 ≤ s.custody.log.length then 4
  else if ∃ b : Bay, (s.bay b).slot.any (·.unread) = true then 5
  else if s.startup.phase = .run ∧ s.startup.defaulted = true then 6 else 0

/-- The charge controller's and the protection unit's per-bay items are in their ranges and fit the charge state. -/
def State.ChargeFits (s : State) : Prop := s.StagesFit ∧ s.LevelsFit ∧ s.CountsFit ∧ s.TagsFit

/-- The collections of the station hold no more than their capacities, in their orders. -/
def State.CollectionsFit (s : State) : Prop := s.QueuesFit ∧ s.LogFits ∧ s.BidsDistinct ∧ s.TransmitFits

end Sys2Proof.Machine
end

