-- ==== Sys2Proof/Certificates/Slice0/Obligations.lean ====
section
/-! DEFINITION. The statements for the provers. Each names the rule of spec/ it formalises; where it rests on a choice
of the model, its docstring names the log entry. `RunsTo c s u` says that `c` answers a next state from `s`, which is `u`
but for what the bid and lane units write when they are told of the change. -/

open Sys2Proof Sys2Proof.Machine

/-! ### The step -/

/-- A step runs the command at the front of the queue over the state with the queue's rest. On an empty queue the part
idles, which is the model's choice (log entry 13). -/
def Obligations.StepRunsFrontCommand : Prop :=
  (∀ (c : Instr) (rest : List Instr) (s : State), s.pending = c :: rest → step s = exec c { s with pending := rest }) ∧
  ∀ s : State, s.pending = [] → step s = .next s

/-- No command stops the part: every command answers a next state, and leaves the queue of waiting commands as it is. A
command whose event cannot occur leaves the whole state as it is, which is the model's choice (log entry 1; log entries 2,
3, 6, 21, 32 and 43 for what makes an expiry, a taken request, a clock edge, the line and a frame fit). -/
def Obligations.CommandsAnswerNext : Prop :=
  ∀ (c : Instr) (s : State),
    (∃ t : State, exec c s = .next t ∧ t.pending = s.pending) ∧ (¬ s.CanOccur c → exec c s = .next s)

/-! ### Resets and start-up -/

/-- R2, R11, R17, R19, R20, R24, R33, R34, R62, R83, R105, R109, R119, R135, R150, R154, R169, R182, R187, R189, R191: the values
of the power-on reset, DRV_EN deasserted and TXD recessive among them. -/
def Obligations.PowerOnResetValues : Prop :=
  let s := State.reset
  (∀ b, (s.bay b).populated = true ∧ (s.bay b).profile = 0 ∧
    (s.bay b).charge.state = .disabled ∧ (s.bay b).charge.level = none ∧ (s.bay b).charge.acc = 0 ∧
    (s.bay b).charge.limit = 0 ∧ (s.bay b).charge.keep = 0 ∧ (s.bay b).charge.urgent = 0 ∧
    (s.bay b).charge.normal = 0 ∧ (s.bay b).charge.time = 0 ∧ (s.bay b).charge.tag = none ∧
    (s.bay b).charge.departed = none ∧ (s.bay b).charge.provisioned = false ∧ (s.bay b).filtered = 0 ∧
    (s.bay b).out = { stageEnable := false, stageLimit := 0, voltageSelect := 5000, latch := false, crosspoint := none } ∧
    (s.bay b).lock = Lock.closed ∧ (s.bay b).slot = none ∧ (s.bay b).reservation = none ∧ (s.bay b).measure = none ∧
    (s.bay b).prot.score = 0 ∧ (s.bay b).prot.retryCount = 0 ∧ (s.bay b).prot.latched = false ∧
    (s.bay b).prot.held = false ∧ (s.bay b).prot.lastFault = none ∧ (s.bay b).prot.mark = false ∧
    (s.bay b).prot.result = none ∧ (s.bay b).prot.blankEnd = none ∧ (s.bay b).prot.retryTimer = none ∧
    (s.bay b).prot.filterCount = 0 ∧ (s.bay b).prot.overload = 0 ∧ (s.bay b).prot.overvolt = 0 ∧
    (s.bay b).prot.backfeed = 0 ∧ (s.bay b).charge.allotted = 0 ∧ (s.bay b).charge.detectTimer = none ∧
    (s.bay b).charge.lowCount = 0 ∧ (s.bay b).charge.returnCount = 0 ∧ (s.bay b).charge.fullRun = none ∧
    (s.bay b).charge.highRun = none ∧ (s.bay b).charge.exceeded = false) ∧
  s.pacing.prescaler = 0 ∧ s.pacing.subTicks = 0 ∧ s.pacing.uptime = 0 ∧
  s.scanner.divider = 0 ∧ s.scanner.pass = none ∧ (∀ k : Fin 19, s.scanner.results[k] = none) ∧
  (∀ i, s.peer i =
    { state := .absent, keep := 0, urgent := 0, urgentN := 0, normal := 0, normalN := 0, ceiling := 0, droop := false,
      feedClass := 0, lastSeq := 0, missed := 0, age := 0, due := false }) ∧
  s.share.budget = 0 ∧ s.share.shareSelf = 0 ∧ s.share.lastY = 0 ∧ s.share.xt = 0 ∧
  s.share.applied = 0 ∧ s.share.seq = 0 ∧ s.share.thermal = 100 ∧ s.share.temps = none ∧ s.share.droopFactor = 100 ∧
  s.share.droop = false ∧ s.share.warnRun = 0 ∧ s.share.tripRun = 0 ∧ s.share.reportTimer = none ∧
  s.custody = { log := [], nextNumber := 0, overflow := 0, allSource := none, allCount := 0 } ∧
  s.bids = [] ∧ (∀ x : Lane, s.lanes.table[x] = none ∧ s.lanes.drive[x] = false) ∧ s.lanes.claim = none ∧
  s.lanes.arrivals = 0 ∧ s.bus.txq = [] ∧ s.bus.reqq = [] ∧ s.bus.holding = false ∧ s.bus.holdCount = 0 ∧ s.bus.rxErrors = 0 ∧
  s.bus.errorRun = 0 ∧ s.bus.muted = false ∧ s.bus.line = .gap ∧ s.bus.recessive = 0 ∧ (∀ k, s.drvEn k = false) ∧
  (∀ k, s.txd k = some true) ∧ s.handler.interval = none ∧ s.handler.summary = none ∧
  s.startup.firstFrame = none ∧ s.startup.close = none ∧ s.startup.defaulted = false ∧
  s.startup.image.toArray.toList =
    List.replicate 16 1 ++ [9000, 27, 2, 8, 300, 85, 150, 240, 30, 9000, 27, 2, 8, 300, 85, 150, 240, 30] ++
    [9000, 27, 2, 8, 300, 85, 150, 240, 30, 9000, 27, 2, 8, 300, 85, 150, 240, 30] ++
    [10, 20, 20, 100, 5, 8, 250, 1, 2, 2, 1, 1, 1, 0, 250, 1000, 10, 60, 30, 24, 45, 60, 15, 60] ++
    List.replicate 8 0 ++ [200]

/-- R2, R132, R189: a power-on reset puts every item at its reset value; a pin reset does so but for the fault score, the
latched mark, the held quarantine and the release log with its numbering; at the end of a reset the straps are sampled:
node 0 is INERT, any other node is in CONFIG with the first-frame timer started. That the inputs stand through a reset is
the model's reading (log entry 14). -/
def Obligations.ResetsRestoreResetValues : Prop :=
  ∀ (s : State) (node : Node) (feedClass : BitVec 2),
    exec .powerOnReset s =
      .next { State.reset with inputs := s.inputs, freeCount := s.freeCount, pending := s.pending } ∧
    (∃ t : State, exec .pinReset s = .next t ∧
      t = { State.reset with
        bays := t.bays
        custody := { s.custody with allSource := none, allCount := 0 }
        inputs := s.inputs
        freeCount := s.freeCount
        pending := s.pending } ∧
      ∀ b, t.bay b = { BayRecord.reset with prot := { BayRecord.reset.prot with
        score := (s.bay b).prot.score
        latched := (s.bay b).prot.latched
        held := decide ((s.bay b).prot.held = true ∨ (s.bay b).charge.state = .quarantined) } }) ∧
    (s.startup.phase = .resetting → exec (.resetEnd node feedClass) s = .next
      { s with startup := { s.startup with
        phase := if node = 0#4 then .inert else .config
        node := node
        feedClass := feedClass
        firstFrame := if node = 0#4 then none else some 20000
        close := none } })

/-- R9, R109: the first tick after a reset, in CONFIG: every debouncer takes its input, and every lock its state from
its door, with an OPEN_AT_START record for each open one. In the inert state the debouncers alone take their values. -/
def Obligations.FirstTickSetsLocks : Prop :=
  ∀ s : State, s.pacing.firstTick = .due →
    (s.startup.phase = .config → ∃ u : State, RunsTo .firstTickAfterReset s u ∧
      u = { s with bays := u.bays, pacing := { s.pacing with firstTick := .taken }, custody := u.custody } ∧
      (∀ b,
        (u.bay b).presence = { value := s.inputs.presence.getLsbD b, count := 0 } ∧
        (u.bay b).door = { value := s.inputs.doorOpen.getLsbD b, count := 0 } ∧
        (u.bay b).charge = (s.bay b).charge ∧ (u.bay b).prot = (s.bay b).prot ∧
        (u.bay b).out = { (s.bay b).out with latch := false } ∧
        (u.bay b).lock = if s.inputs.doorOpen.getLsbD b then
          { Lock.closed with state := .opened, baseline := some (s.inputs.presence.getLsbD b), ajar := some 60000 }
          else Lock.closed) ∧
      (∀ b : Bay, s.inputs.doorOpen.getLsbD b = true → ∃ r ∈ u.custody.log,
        r.bay = b.val + 1 ∧ r.kind = .openAtStart ∧ r.uptime = s.pacing.uptime ∧ r.requester = none ∧
        r.request = none ∧ r.tag = none ∧ r.level = none) ∧
      (s.inputs.doorOpen = 0#8 → u.custody = s.custody)) ∧
    (s.startup.phase = .inert → ∃ t : State, exec .firstTickAfterReset s = .next t ∧
      t = { s with bays := t.bays, pacing := { s.pacing with firstTick := .taken } } ∧
      ∀ b, t.bay b = { s.bay b with
        presence := { value := s.inputs.presence.getLsbD b, count := 0 }
        door := { value := s.inputs.doorOpen.getLsbD b, count := 0 } })

/-- R3, R5, R6, R11, R13, R20, R29, R33, R34, R62, R67, R76, R98, R101, R187, R193, R194: when a configuration timer expires in
CONFIG the part enters RUN with the image as it stands and the defaulted flag set, and every bay's record becomes what
`BayRecord.EnteredRun` gives. -/
def Obligations.ConfigTimersEnterRun : Prop :=
  ∀ (c : Instr) (s : State), s.startup.phase = .config →
    (c = .firstFrameTimerExpiry ∧ s.startup.firstFrame = some 0 ∨ c = .closeTimerExpiry ∧ s.startup.close = some 0) →
    ∃ t : State, exec c s = .next t ∧ s.EnteredRun t true ∧ t.handler = { s.handler with summary := some 2000 }

/-! ### Ticks, debouncers and uptime -/

/-- R17, R18, R46, R63, R86, R164: what a tick moves: every running timer counts down by one, the charge times, the jobs'
elapsed counts and the peers' times since last report rise, the scan divider rises to the scan period; nothing else
changes but the debouncers, the inputs last seen and the short filter counts, which become the length of the run of high
edges that the tick brings, counted from the blank end on and held at the filter time, and 0 for a bay that is not armed
(R62; the tick's own edge is its 8000 edges per tick, log entry 6). The model's choices: a timer at 0 is an
expiry that is due and stays at 0, the tick count beneath the uptime stands at 1000 with the uptime unmoved and the divider
at the scan period until their commands are taken, and a peer entry at its threshold is marked due (log entries 2 and
25). -/
def Obligations.TickMovesTimers : Prop :=
  ∀ (inputs : TickInputs) (s : State), s.startup.phase ≠ .resetting → ∃ t : State, exec (.tick inputs) s = .next t ∧
    t = { s with
      bays := t.bays
      pacing := { ticks := s.pacing.ticks + 1, prescaler := 0, subTicks := min 1000 (s.pacing.subTicks + 1),
                  uptime := s.pacing.uptime,
                  firstTick := if s.pacing.firstTick = .awaited then .due else s.pacing.firstTick }
      scanner := { s.scanner with divider := min (scanPeriodOf s.force) (s.scanner.divider + 1) }
      share := { s.share with peers := t.share.peers, reportTimer := s.share.reportTimer.map (· - 1) }
      bids := s.bids.map fun e => { e with window := e.window.map (· - 1) }
      lanes := { s.lanes with claim := s.lanes.claim.map fun k => match k.phase with
        | .settling x left => { k with phase := .settling x (left - 1) }
        | .awaitingPower | .awaitingLane | .claimQueued _ => k }
      handler := { s.handler with interval := s.handler.interval.map (· - 1), summary := s.handler.summary.map (· - 1) }
      startup := { s.startup with firstFrame := s.startup.firstFrame.map (· - 1), close := s.startup.close.map (· - 1) }
      inputs := { s.inputs with presence := inputs.presence, doorOpen := inputs.doorOpen } } ∧
    (∀ i, t.peer i =
      if i = s.ownIndex ∨ (s.peer i).state = .absent then s.peer i
      else
        let age := min 65535 ((s.peer i).age + 1)
        { s.peer i with
          age := age
          due := decide ((s.peer i).state = .live ∧ silenceTimeOf s.force ≤ age ∨
            (s.peer i).state = .silent ∧ silenceTimeOf s.force + holdTimeOf s.force ≤ age) }) ∧
    ∀ b, t.bay b = { s.bay b with
      presence := (t.bay b).presence
      door := (t.bay b).door
      charge := { (s.bay b).charge with
        time := if (s.bay b).charge.state = .softstart ∨ (s.bay b).charge.state = .bulk ∨ (s.bay b).charge.state = .taper
                then min 4294967295 ((s.bay b).charge.time + 1) else (s.bay b).charge.time
        detectTimer := (s.bay b).charge.detectTimer.map (· - 1) }
      lock := { (s.bay b).lock with
        window := (s.bay b).lock.window.map (· - 1), ajar := (s.bay b).lock.ajar.map (· - 1) }
      prot := { (s.bay b).prot with
        filterCount := match (s.bay b).prot.blankEnd with
          | none => 0
          | some blank => if (s.bay b).charge.state.stageOn = true
              then min (filterEdgesOf s.force) (min inputs.shortRun[b] ((s.pacing.ticks + 1) * 8000 + 1 - blank)) else 0
        retryTimer := (s.bay b).prot.retryTimer.map (· - 1) }
      slot := (s.bay b).slot.map fun j =>
        if j.state = .ended then j else { j with elapsed := min (j.timeLimit * 60000) (j.elapsed + 1) } }

/-- R5, R8, R10: the debouncers at a tick, from the second tick after a reset on: an equal sample clears the count, a different
one raises it; the tick that brings the count to the debounce time makes the change due, and taking it, in the inert
state as in every other, flips the debounced value and clears the count; in the inert state, and in RUN of an unpopulated
bay, the change is handed to no block and nothing else changes. That a due change stands, its count unmoved by
further ticks, until it is taken is the model's choice (log entry 2). R19, R20: the uptime rises at the thousandth tick and
a scan pass starts at the tick at which the divider reaches the scan period; both change nothing else. -/
def Obligations.DebouncersAndCounts : Prop :=
  ∀ (inputs : TickInputs) (s : State) (b : Bay), s.startup.phase ≠ .resetting →
    (s.pacing.firstTick = .taken → (s.bay b).presence.count < 50 → ∃ t : State, exec (.tick inputs) s = .next t ∧
      (t.bay b).presence = if inputs.presence.getLsbD b = (s.bay b).presence.value
        then { value := (s.bay b).presence.value, count := 0 }
        else { value := (s.bay b).presence.value, count := (s.bay b).presence.count + 1 }) ∧
    (s.pacing.firstTick = .taken → (s.bay b).door.count < 20 → ∃ t : State, exec (.tick inputs) s = .next t ∧
      (t.bay b).door = if inputs.doorOpen.getLsbD b = (s.bay b).door.value
        then { value := (s.bay b).door.value, count := 0 }
        else { value := (s.bay b).door.value, count := (s.bay b).door.count + 1 }) ∧
    ((s.bay b).presence.count = 50 → ∃ t : State, exec (.presenceChange b) s = .next t ∧
      (t.bay b).presence = { value := !(s.bay b).presence.value, count := 0 }) ∧
    ((s.bay b).door.count = 20 → ∃ t : State, exec (.doorChange b) s = .next t ∧
      (t.bay b).door = { value := !(s.bay b).door.value, count := 0 }) ∧
    ((s.startup.phase = .inert ∨ s.startup.phase = .run ∧ (s.bay b).populated = false) →
      ((s.bay b).presence.count = 50 → exec (.presenceChange b) s = .next (s.setBay b { s.bay b with
        presence := { value := !(s.bay b).presence.value, count := 0 } })) ∧
      ((s.bay b).door.count = 20 → exec (.doorChange b) s = .next (s.setBay b { s.bay b with
        door := { value := !(s.bay b).door.value, count := 0 } }))) ∧
    (s.pacing.subTicks = 1000 → exec .uptimeSecond s = .next
      { s with pacing := { s.pacing with subTicks := 0, uptime := min 4294967295 (s.pacing.uptime + 1) } }) ∧
    (s.scanner.pass = none → s.scanner.divider = scanPeriodOf s.force →
      exec .scanPassStart s = .next { s with scanner := { s.scanner with
        divider := 0, pass := some { tick := s.pacing.ticks, next := 0, period := scanPeriodOf s.force } } })

/-! ### Presence and doors -/

/-- R117: a presence event seen by the lock: with the door closed an ANOMALY record, with the door open the removal note,
and the lock otherwise as it was. -/
def Obligations.PresenceAtLock : Prop :=
  ∀ (s : State) (b : Bay), (s.bay b).presence.count = 50 → s.HandsOn b →
    let r := s.bay b
    let removed := r.presence.value
    ∃ t : State, exec (.presenceChange b) s = .next t ∧
      ((r.lock.state = .secured ∨ r.lock.state = .granted) → (t.bay b).lock = r.lock ∧ (t.bay b).out.latch = r.out.latch ∧
        t.custody = (s.addRecord (b.val + 1) .anomaly none none (if removed then r.charge.tag else none)
          (if removed then r.charge.level else none)).custody) ∧
      ((r.lock.state = .opened ∨ r.lock.state = .ajar ∨ r.lock.state = .forced) → t.custody = s.custody ∧
        (t.bay b).lock = { r.lock with
          note := if removed then some { tag := r.charge.tag, level := r.charge.level } else r.lock.note })

/-- R15, R16, R43, R75: the removal of a tablet, as the charge controller and the protection unit act on it; the provisioned
flag is cleared in the next state, whatever becomes of the bay's job. R34, R44, R67: a
tablet docked in an EMPTY bay takes it to DETECT. R44, R75: one docked in a latched FAULTED or a QUARANTINED bay changes
nothing of theirs: the state stays, the stage stays as it is, no DETECT timer starts and the mark is not set. R10: nor does
either event in a DISABLED bay. -/
def Obligations.PresenceMovesCharge : Prop :=
  (∀ (s : State) (b : Bay), (s.bay b).presence = { value := true, count := 50 } → s.HandsOn b →
    (s.bay b).charge.state ≠ .disabled →
    let r := s.bay b
    let after : ChargeState :=
      if r.charge.state = .quarantined then .quarantined
      else if r.charge.state = .faulted ∧ r.prot.latched = true then .faulted else .empty
    ∃ u t : State, exec (.presenceChange b) s = .next t ∧ u.UnitsOnly t ∧ (t.bay b).charge.provisioned = false ∧
      u = { s with bays := u.bays, custody := u.custody } ∧
      u.bay b = { r with
        presence := { value := false, count := 0 }
        lock := (u.bay b).lock
        charge := { r.charge.stageOff after with
          level := none, acc := 0, time := 0, exceeded := false, tag := none, departed := r.charge.tag, provisioned := false }
        out := r.out.stageOff
        prot := { (r.prot.unmeasured r.measure.isSome).unarmed with retryCount := 0, retryTimer := none }
        measure := none } ∧
      ∀ c, c ≠ b → u.bay c = { s.bay c with charge := { (s.bay c).charge with
        departed := if r.charge.tag.isSome ∧ (s.bay c).charge.departed = r.charge.tag then none
                    else (s.bay c).charge.departed } }) ∧
  (∀ (s : State) (b : Bay), (s.bay b).presence = { value := false, count := 50 } → s.HandsOn b →
    (s.bay b).charge.state = .empty → (s.bay b).measure = none →
    ∃ u : State, RunsTo (.presenceChange b) s u ∧
      u = { s with bays := u.bays, custody := u.custody } ∧ (∀ c, c ≠ b → u.bay c = s.bay c) ∧
      u.bay b = { s.bay b with
        presence := { value := true, count := 0 }
        charge := { (s.bay b).charge.stageOff .detect with time := 0, exceeded := false, detectTimer := some 500 }
        out := (s.bay b).out.stageOff
        prot := { (s.bay b).prot.unarmed with mark := (s.bay b).prot.mark || checkAtDockingOf s.force } }) ∧
  ∀ (s : State) (b : Bay), (s.bay b).presence.count = 50 → s.HandsOn b →
    ((s.bay b).charge.state = .disabled ∨ (s.bay b).presence.value = false ∧
      ((s.bay b).charge.state = .quarantined ∨ (s.bay b).charge.state = .faulted ∧ (s.bay b).prot.latched = true)) →
    ∃ u : State, RunsTo (.presenceChange b) s u ∧
      u = { s with bays := u.bays, custody := u.custody } ∧ (∀ c, c ≠ b → u.bay c = s.bay c) ∧
      u.bay b = { s.bay b with
        presence := { value := !(s.bay b).presence.value, count := 0 }
        lock := (u.bay b).lock }

/-- R110, R112 to R115: the door of a GRANTED bay opens to OPEN, that of a SECURED bay to FORCED with a FORCED record; a
GRANTED bay's window expires with a LAPSED record, and an OPEN bay's ajar timer makes it AJAR without one. -/
def Obligations.LocksFollowDoorsAndTimers : Prop :=
  ∀ (s : State) (b : Bay),
    let r := s.bay b
    (r.door = { value := false, count := 20 } → s.HandsOn b → r.lock.state = .granted →
      RunsTo (.doorChange b) s (s.setBay b { r with
        door := { value := true, count := 0 }
        lock := { r.lock with
          state := .opened, baseline := some r.presence.value, window := none, ajar := some (ajarTimeOf s.force) }
        out := { r.out with latch := false } })) ∧
    (r.door = { value := false, count := 20 } → s.HandsOn b → r.lock.state = .secured →
      RunsTo (.doorChange b) s
        ((s.addRecord (b.val + 1) .forced none none r.charge.tag r.charge.level).setBay b { r with
          door := { value := true, count := 0 }
          lock := { r.lock with state := .forced, baseline := some r.presence.value } })) ∧
    (r.lock.state = .granted → r.lock.window = some 0 → RunsTo (.grantWindowExpiry b) s
      ((s.addRecord (b.val + 1) .lapsed (r.lock.grant.map (·.requester)) (r.lock.grant.map (·.request)) r.charge.tag
        r.charge.level).setBay b { r with lock := Lock.closed, out := { r.out with latch := false } })) ∧
    (r.lock.state = .opened → r.lock.ajar = some 0 → ∃ t : State, exec (.ajarTimerExpiry b) s = .next t ∧
      (s.setBay b { r with lock := { r.lock with state := .ajar, ajar := none } }).UnitsOnly t ∧ t.anyAjar = true)

/-- R116: the door of an OPEN, AJAR or FORCED bay closes: the custody record by the two ends of the opening, and the
bay SECURED. R128: the addition of a record: numbered, placed after the newest, a seventeenth discarding the oldest. -/
def Obligations.DoorClosesWithRecord : Prop :=
  (∀ (s : State) (b : Bay) (base : Bool), (s.bay b).door = { value := true, count := 20 } → s.HandsOn b →
    let r := s.bay b
    (r.lock.state = .opened ∨ r.lock.state = .ajar ∨ r.lock.state = .forced) → r.lock.baseline = some base →
    let dispensed := base && !r.presence.value
    let kind : RecordKind := if dispensed then .dispensed else if !base && r.presence.value then .returned else .opened
    RunsTo (.doorChange b) s
      ((s.addRecord (b.val + 1) kind (r.lock.grant.map (·.requester)) (r.lock.grant.map (·.request))
          (if dispensed then r.lock.note.bind (·.tag) else r.charge.tag)
          (if dispensed then r.lock.note.bind (·.level) else r.charge.level)).setBay b { r with
        door := { value := false, count := 0 }
        lock := Lock.closed
        out := { r.out with latch := false } })) ∧
  ∀ (s : State) (bay : Nat) (kind : RecordKind) (m : Option Node) (q : Option ReqNo) (tag : Option Tag)
    (level : Option Nat),
    let t := s.addRecord bay kind m q tag level
    let r : LogRecord :=
      { number := s.custody.nextNumber, uptime := s.pacing.uptime, bay := bay, kind := kind, requester := m, request := q,
        tag := tag, level := level }
    t = { s with custody := t.custody } ∧
    t.custody.nextNumber = (s.custody.nextNumber + 1) % 65536 ∧
    t.custody.allSource = s.custody.allSource ∧ t.custody.allCount = s.custody.allCount ∧
    (s.custody.log.length ≤ 16 → t.custody.log.length ≤ 16 ∧ t.custody.log.getLast? = some r ∧
      (s.custody.log.length < 16 → t.custody.log = s.custody.log ++ [r] ∧ t.custody.overflow = s.custody.overflow) ∧
      (s.custody.log.length = 16 → t.custody.log = s.custody.log.drop 1 ++ [r] ∧
        t.custody.overflow = min 255 (s.custody.overflow + 1)))

/-! ### A bay's own timers and detectors -/

/-- R29, R35, R36, R42, R45, R63, R71: at the end of DETECT, and of the retry delay in RETRY_WAIT, the bay enters
SOFTSTART with an allotted limit of 100 mA or more, and PAUSED below it. The blank end is counted from the latest clock edge
known, ticks * 8000 + prescaler, which is the model's reading of the enable edge (log entry 6). -/
def Obligations.EnableOrPause : Prop :=
  ∀ (c : Instr) (b : Bay) (s : State),
    (c = .detectTimerExpiry b ∧ (s.bay b).charge.state = .detect ∧ (s.bay b).charge.detectTimer = some 0 ∨
     c = .retryDelayExpiry b ∧ (s.bay b).charge.state = .retryWait ∧ (s.bay b).prot.retryTimer = some 0) →
    let r := s.bay b
    (100 ≤ r.charge.allotted → RunsTo c s (s.setBay b { r with
      charge := { r.charge with state := .softstart, limit := 100, detectTimer := none }
      out := { r.out with stageEnable := true, stageLimit := 100 }
      prot := { r.prot.unarmed with
        retryTimer := none
        blankEnd := some (s.pacing.ticks * 8000 + s.pacing.prescaler + blankEdgesOf s.force) }
      measure := if r.prot.mark = true ∧ r.measure = none then some s.pacing.ticks else r.measure })) ∧
    (r.charge.allotted < 100 → RunsTo c s (s.setBay b { r with
      charge := r.charge.stageOff .paused
      out := r.out.stageOff
      prot := { (r.prot.unmeasured r.measure.isSome).unarmed with retryTimer := none }
      measure := none }))

/-- R41, R45, R63, R69 to R72, R74: SHORT detected, once the comparator has shown a short for the filter time from the
blank end on. `high` is the length of the present run of high edges; a run that reaches back over the latest tick goes
on from the count held there (log entry 6). -/
def Obligations.ShortDecidesFault : Prop :=
  ∀ (b : Bay) (edge high blank : Nat) (s : State), s.startup.phase = .run →
    (s.bay b).charge.state.stageOn = true → (s.bay b).prot.blankEnd = some blank → s.pacing.prescaler ≤ edge →
    filterEdgesOf s.force ≤ (if edge ≤ high then (s.bay b).prot.filterCount + edge else high) →
    blank + filterEdgesOf s.force ≤ s.pacing.ticks * 8000 + edge + 1 →
    let policy := policyOf s.force .short
    policy ≠ .warn ∧
    ∃ r : BayRecord,
      (s.bay b).Faulted r policy (quarantineLimitOf s.force) (retryDelayOf s.force)
        { cls := .short, uptime := s.pacing.uptime, value := 3800 } ∧
      RunsTo (.shortDetected b edge high) s ({ s with pacing := { s.pacing with prescaler := edge } }.setBay b r)

/-- R46, R66, R69, R70: NO_TAPER is detected at the charge-time-exceeded event, in SOFTSTART, BULK or TAPER, at most once
in a charging period; with a policy other than WARN the stage is switched off at that event. That the command does nothing
once the period's event has been handed on, and the mark that holds this, are the model's (log entries 1 and 25). -/
def Obligations.ChargeTimeRaisesNoTaper : Prop :=
  ∀ (b : Bay) (s : State),
    let r := s.bay b
    ((r.charge.state = .softstart ∨ r.charge.state = .bulk ∨ r.charge.state = .taper) → r.charge.exceeded = false →
      (s.profile b).maxChargeTime * 60000 < r.charge.time →
      let policy := policyOf s.force .noTaper
      let fault : LastFault := { cls := .noTaper, uptime := s.pacing.uptime, value := (r.charge.time / 60000 : Nat) }
      let counted : BayRecord := { r with charge := { r.charge with exceeded := true } }
      (policy = .warn → RunsTo (.chargeTimeExceeded b) s (s.setBay b { counted with
        prot := { r.prot with lastFault := some fault, overload := 0, overvolt := 0, backfeed := 0 } })) ∧
      (policy ≠ .warn → ∃ t, counted.Faulted t policy (quarantineLimitOf s.force) (retryDelayOf s.force) fault ∧
        RunsTo (.chargeTimeExceeded b) s (s.setBay b t) ∧ t.out.stageEnable = false ∧
        (t.charge.state = .faulted ∨ t.charge.state = .quarantined))) ∧
    (r.charge.exceeded = true → exec (.chargeTimeExceeded b) s = .next s)

/-! ### The scanner and the bay samples -/

/-- R21 to R24, R26, R64: a conversion's code is written into the result table, and the pass goes on to its next channel or
ends; at the end of a current conversion the stage current limit is noted, at the end of the second temperature
conversion both temperatures are published; in the inert state nothing is. The codes read as R22 and R23
give. The prescaler takes the conversion's clock edge, 320 edges after the one before, which is the model's bookkeeping of edges (log entry 6). -/
def Obligations.ConversionsFillTable : Prop :=
  ∀ (s : State) (p : Pass) (code : BitVec 12), s.startup.phase ≠ .resetting → s.scanner.pass = some p →
    let t := { s with
      scanner := { s.scanner with
        results := s.scanner.results.set p.next (some code)
        pass := if h : p.next.val < 18 then some { p with next := ⟨p.next.val + 1, by omega⟩ } else none }
      pacing := { s.pacing with prescaler := max s.pacing.prescaler (320 * (p.next.val + 1)) } }
    (∃ u : State, exec (.conversionEnd code) s = .next u ∧ u.scanner = t.scanner ∧ u.pacing = t.pacing) ∧
    (s.startup.phase = .inert → exec (.conversionEnd code) s = .next t) ∧
    (∀ b : Bay, s.awake = true → p.next = currentChannel b →
      exec (.conversionEnd code) s = .next (t.setBay b { s.bay b with notedLimit := (s.bay b).out.stageLimit })) ∧
    (p.next = 17 → exec (.conversionEnd code) s = .next t) ∧
    (∀ a : BitVec 12, s.awake = true → p.next = 18 → s.scanner.results[17] = some a →
      exec (.conversionEnd code) s = .next
        { t with share := { s.share with temps := some (temperatureOf a, temperatureOf code) } }) ∧
    currentOf code = 2 * (code.toNat : Int) - 4096 ∧ voltageOf code = 5 * code.toNat ∧ railOf code = 10 * code.toNat ∧
    temperatureOf code = if code = 4095#12 then 205 else (code.toNat : Int) / 16 - 50

/-- R27: the filtered power at a bay sample; its bound, the band in which it stands still under a constant power, and who
reads it: QUERY BAY, and a TAPER bay's demand. -/
def Obligations.FilteredPower : Prop :=
  (∀ (s : State) (b : Bay) (p : Pass) (current code : BitVec 12), s.Samples b p current →
    let mA : Int := 2 * (current.toNat : Int) - 4096
    let power : Nat := if 0 < mA then 5 * code.toNat * mA.toNat / 1000 else 0
    ∃ t : State, exec (.conversionEnd code) s = .next t ∧
      ((s.bay b).out.stageEnable = true → (t.bay b).filtered = (15 * (s.bay b).filtered + power) / 16) ∧
      ((s.bay b).out.stageEnable = false → (t.bay b).filtered = 0) ∧
      power ≤ 83824 ∧ ((s.bay b).filtered ≤ 83824 → (t.bay b).filtered ≤ 83824)) ∧
  (∀ f p : Nat, (15 * f + p) / 16 = f ↔ f ≤ p ∧ p ≤ f + 15) ∧
  ∀ (s : State) (b : Bay), (s.bayReport b).filtered = (s.bay b).filtered ∧
    ((s.bay b).charge.state = .taper →
      s.urgentDemand b + s.normalDemand b = min ((s.bay b).filtered / 1000 + 2) (s.profile b).maxPower - s.keepDemand b)

/-- R30, R65, R68: the first bay sample 200 ticks or more after a pending measurement's start, in SOFTSTART or BULK, takes
the reading, which is stored and clears the mark; a value above the connector limit is a CONNECTOR fault unless the
sample completes a run, which is the fault then. What the fault leads to is said for every class in `SampleRunsRaiseFaults`. -/
def Obligations.ConnectorReading : Prop :=
  ∀ (s : State) (b : Bay) (p : Pass) (current code : BitVec 12) (start : Nat), s.Samples b p current →
    ((s.bay b).charge.state = .softstart ∨ (s.bay b).charge.state = .bulk) → (s.bay b).measure = some start →
    start + 200 ≤ p.tick →
    let mA : Int := 2 * (current.toNat : Int) - 4096
    let mV := 5 * code.toNat
    let v := (s.profile b).voltage
    let r := s.bay b
    let reading : Nat := if mA < 200 then 65535 else min 65534 ((v - mV) * 1000 / mA.toNat)
    let overvolt := v + v / 10 < mV ∧ 2 ≤ r.prot.overvolt
    let backfeed := mA < -100 ∧ 2 ≤ r.prot.backfeed
    let overload := (r.notedLimit : Int) + 300 < mA ∧ 4 ≤ r.prot.overload
    let fault := fun (cls : FaultClass) (value : Int) =>
      some ({ cls := cls, uptime := s.pacing.uptime, value := value } : LastFault)
    ∃ t : State, exec (.conversionEnd code) s = .next t ∧ (t.bay b).measure = none ∧ (t.bay b).prot.result = some reading ∧
      (t.bay b).prot.mark = false ∧
      (t.bay b).prot.lastFault =
        if overvolt then fault .overvolt mV else if backfeed then fault .backfeed mA else if overload then fault .overload mA
        else if reading ≠ 65535 ∧ connectorLimitOf s.force < reading then fault .connector reading else r.prot.lastFault

/-- R36, R38 to R41, R73: what a bay sample that switches no stage off does by charge state, whatever runs start or go on
and whether or not a connector measurement is pending: a SOFTSTART bay's limit rises by
100 mA and meets the allotted limit in BULK; a BULK bay's fiftieth consecutive sample below 90 % of its limit takes it to
TAPER; a TAPER bay's full test comes before its return to BULK; a MAINTAIN bay's high-current run takes it to TAPER. -/
def Obligations.SamplesMoveChargeState : Prop :=
  ∀ (s : State) (b : Bay) (p : Pass) (current code : BitVec 12), s.Samples b p current →
    let mA : Int := 2 * (current.toNat : Int) - 4096
    let c := (s.bay b).charge
    let full : Int := (s.profile b).fullCurrent
    let ramp := min (c.limit + 100) c.allotted
    s.Quiet b p (5 * code.toNat) mA →
    ∃ t : State, exec (.conversionEnd code) s = .next t ∧
      (c.state = .softstart → (t.bay b).charge.state = (if ramp = c.allotted then .bulk else .softstart) ∧
        (t.bay b).charge.limit = ramp ∧ (t.bay b).out.stageLimit = ramp ∧
        (ramp = c.allotted → (t.bay b).charge.lowCount = 0)) ∧
      (c.state = .bulk →
        if 10 * mA < 9 * (c.limit : Int) then
          (c.lowCount < 49 → (t.bay b).charge.state = .bulk ∧ (t.bay b).charge.lowCount = c.lowCount + 1 ∧
            (t.bay b).charge.limit = c.limit) ∧
          (c.lowCount = 49 → (t.bay b).charge.state = .taper ∧ (t.bay b).charge.limit = c.allotted ∧
            (t.bay b).out.stageLimit = c.allotted ∧ (t.bay b).charge.returnCount = 0 ∧ (t.bay b).charge.fullRun = none)
        else (t.bay b).charge.state = .bulk ∧ (t.bay b).charge.lowCount = 0 ∧ (t.bay b).charge.limit = c.limit) ∧
      (c.state = .taper →
        let count := if 98 * (c.limit : Int) ≤ 100 * mA then c.returnCount + 1 else 0
        let start := c.fullRun.getD p.tick
        if mA < full ∧ start + 60000 ≤ p.tick then
          (t.bay b).charge.state = .maintain ∧ (t.bay b).charge.level = some 1000 ∧ (t.bay b).charge.acc = 0 ∧
          (t.bay b).charge.limit = c.allotted ∧ (t.bay b).charge.highRun = none ∧
          (t.bay b).prot.score = (s.bay b).prot.score - 1
        else if 50 ≤ count then (t.bay b).charge.state = .bulk ∧ (t.bay b).charge.limit = c.allotted
        else (t.bay b).charge.state = .taper ∧ (t.bay b).charge.returnCount = count ∧
          (t.bay b).charge.fullRun = if mA < full then some start else none) ∧
      (c.state = .maintain →
        let start := c.highRun.getD p.tick
        if 2 * full < mA ∧ start + 60000 ≤ p.tick then
          (t.bay b).charge.state = .taper ∧ (c.level = some 1000 → (t.bay b).charge.level = some 990)
        else (t.bay b).charge.state = .maintain ∧
          (t.bay b).charge.highRun = if 2 * full < mA then some start else none)

/-- R56, R57: the energy of a sample, and the level's steps, on a sample that switches no stage off and takes the bay
neither from TAPER to MAINTAIN nor from MAINTAIN to TAPER, whatever runs start or go on. -/
def Obligations.LevelSteps : Prop :=
  ∀ (s : State) (b : Bay) (p : Pass) (current code : BitVec 12), s.Samples b p current →
    let mA : Int := 2 * (current.toNat : Int) - 4096
    let c := (s.bay b).charge
    let q := s.profile b
    s.Quiet b p (5 * code.toNat) mA → c.staysBelowFull p q.fullCurrent mA → c.staysFull p q.fullCurrent mA →
    0 < q.capacity →
    let acc := min 18446744073709551615 (c.acc + q.voltage * min 3000 mA.toNat * p.period * q.efficiency)
    let size := q.capacity * 36000000000
    let cap := if c.state = .maintain then 1000 else 999
    ∃ t : State, exec (.conversionEnd code) s = .next t ∧
      (c.state.stageOn = true → 0 < mA →
        (c.level = none → (t.bay b).charge.level = none ∧ (t.bay b).charge.acc = acc) ∧
        ∀ l, c.level = some l → l ≤ cap →
          (t.bay b).charge.acc = acc % size ∧ (t.bay b).charge.acc < size ∧
          (t.bay b).charge.level = some (min cap (l + acc / size))) ∧
      (c.state.stageOn = false ∨ mA ≤ 0 → (t.bay b).charge.level = c.level ∧ (t.bay b).charge.acc = c.acc)

/-- R31, R41, R45, R57, R62, R64, R65, R68 to R72: the three runs of an armed bay at a sample, and the fault that the first completed
run in the order OVERVOLT, BACKFEED, OVERLOAD, or else a connector reading above its limit, raises: the last-fault record
and the runs cleared always, and under every policy but WARN the stage off with limit 0, the charge controller's counts and
runs cleared, a measurement ended, by the sample's reading where it takes one and by NO_READING where it does not (R31), and,
on a sample that does not also take the bay to MAINTAIN, the score, the retry count and the state that the policy gives, and
the level that the sample leaves (R57), 990 where that is the 1000 of MAINTAIN. That the reading and the energy of the sample
are taken before the fault is decided is the model's choice (log entry 9). -/
def Obligations.SampleRunsRaiseFaults : Prop :=
  ∀ (s : State) (b : Bay) (p : Pass) (current code : BitVec 12), s.Samples b p current →
    (s.bay b).charge.state.stageOn = true →
    let mV := 5 * code.toNat
    let mA : Int := 2 * (current.toNat : Int) - 4096
    let r := s.bay b
    let q := s.profile b
    let v := q.voltage
    let acc := min (2 ^ 64 - 1) (r.charge.acc + v * min 3000 mA.toNat * p.period * q.efficiency)
    let size := q.capacity * 36000000000
    let cap := if r.charge.state = .maintain then 1000 else 999
    ∃ t : State, exec (.conversionEnd code) s = .next t ∧
      match r.sampleFault p v (connectorLimitOf s.force) mV mA with
      | none => (t.bay b).prot.lastFault = r.prot.lastFault ∧ (t.bay b).charge.state.stageOn = true ∧
          (t.bay b).prot.overvolt = (if v + v / 10 < mV then r.prot.overvolt + 1 else 0) ∧
          (t.bay b).prot.backfeed = (if mA < -100 then r.prot.backfeed + 1 else 0) ∧
          (t.bay b).prot.overload = (if (r.notedLimit : Int) + 300 < mA then r.prot.overload + 1 else 0)
      | some (cls, value) =>
          let policy := policyOf s.force cls
          let st := r.prot.stateAfter policy (quarantineLimitOf s.force)
          (t.bay b).prot.lastFault = some { cls := cls, uptime := s.pacing.uptime, value := value } ∧
          (t.bay b).prot.overvolt = 0 ∧ (t.bay b).prot.backfeed = 0 ∧ (t.bay b).prot.overload = 0 ∧
          (policy = .warn → (t.bay b).charge.state.stageOn = true ∧
            (t.bay b).prot.blankEnd = r.prot.blankEnd ∧ (t.bay b).prot.filterCount = r.prot.filterCount) ∧
          (policy ≠ .warn → (t.bay b).out.stageEnable = false ∧ (t.bay b).out.stageLimit = 0 ∧ (t.bay b).charge.limit = 0 ∧
            (t.bay b).charge.lowCount = 0 ∧ (t.bay b).charge.returnCount = 0 ∧ (t.bay b).charge.fullRun = none ∧
            (t.bay b).charge.highRun = none ∧ (t.bay b).prot.blankEnd = none ∧ (t.bay b).prot.filterCount = 0 ∧
            (t.bay b).measure = none ∧ (t.bay b).prot.mark = (r.prot.mark && r.measure.isNone) ∧
            (t.bay b).prot.result = (if r.measure = none then r.prot.result
              else if r.readingDue p = true then some (readingOf v mV mA) else some 65535) ∧
            (r.charge.staysBelowFull p (s.profile b).fullCurrent mA → (t.bay b).charge.state = st ∧
              (t.bay b).prot.score = r.prot.scoreAfter ∧ (t.bay b).prot.retryCount = r.prot.retriesAfter policy ∧
              (t.bay b).prot.latched = (r.prot.latched || (policy == .latch && st == .faulted)) ∧
              (t.bay b).prot.retryTimer = (if st = .retryWait then some (retryDelayOf s.force) else r.prot.retryTimer) ∧
              (r.charge.level = none → (t.bay b).charge.level = none) ∧
              ∀ l, r.charge.level = some l → l ≤ cap →
                let after := if 0 < mA then min cap (l + acc / size) else l
                (t.bay b).charge.level = some (if after = 1000 then 990 else after)))

/-! ### Tier demands and the distribution -/

/-- R48, R49: a bay's demands in the three tiers. -/
def Obligations.BayDemands : Prop :=
  ∀ (s : State) (b : Bay),
    let c := (s.bay b).charge
    let q := s.profile b
    let keep := (if c.state = .maintain then q.maintainPower else 0) +
      (if (s.bay b).jobState = some .claiming ∨ (s.bay b).jobState = some .connected ∨ (s.bay b).jobState = some .suspended
       then q.awakePower else 0)
    let charging :=
      if c.state = .taper then min ((s.bay b).filtered / 1000 + 2) q.maxPower
      else if c.state = .detect ∨ c.state = .softstart ∨ c.state = .bulk ∨ c.state = .paused ∨ c.state = .retryWait
      then q.maxPower else 0
    s.keepDemand b = keep ∧
    ((c.level = none ∨ ∃ l, c.level = some l ∧ l < itemOf s.force 54 * 10) →
      s.urgentDemand b = charging - keep ∧ s.normalDemand b = 0) ∧
    (∀ l, c.level = some l → itemOf s.force 54 * 10 ≤ l → s.urgentDemand b = 0 ∧ s.normalDemand b = charging - keep)

/-- R51 to R53: a distribution in RUN: the keep tier, the urgent and the normal tier at their largest levels, and the sum of
the allotments within the applied ceiling. The demands are those of the record as it stands, as R51 has it; that this holds
before the next report-period expiry too, of the awake power against R153 and R167 and of the maintain power of a bay faulted
out of MAINTAIN against R79, is the model's choice (log entry 42). -/
def Obligations.DistributionFillsTiers : Prop :=
  ∀ s : State, s.startup.phase = .run →
    let t := s.distribute
    let c := s.share.applied
    let sumK := sumBays s.keepDemand
    let left := if sumK ≤ c then c - sumK else 0
    let rest := left - sumBays fun b => (t.bay b).charge.urgent
    (∀ b, (t.bay b).charge.keep = if sumK ≤ c then s.keepDemand b else s.keepDemand b * c / sumK) ∧
    (sumBays s.urgentDemand ≤ left → ∀ b, (t.bay b).charge.urgent = s.urgentDemand b) ∧
    (left < sumBays s.urgentDemand → ∃ l ≤ 1023, sumBays (fun b => min (s.urgentDemand b) l) ≤ left ∧
      (∀ m ≤ 1023, sumBays (fun b => min (s.urgentDemand b) m) ≤ left → m ≤ l) ∧
      ∀ b, (t.bay b).charge.urgent = min (s.urgentDemand b) l) ∧
    (sumBays s.normalDemand ≤ rest → ∀ b, (t.bay b).charge.normal = s.normalDemand b) ∧
    (rest < sumBays s.normalDemand → ∃ l ≤ 1023, sumBays (fun b => min (s.normalDemand b) l) ≤ rest ∧
      (∀ m ≤ 1023, sumBays (fun b => min (s.normalDemand b) m) ≤ rest → m ≤ l) ∧
      ∀ b, (t.bay b).charge.normal = min (s.normalDemand b) l) ∧
    t.allotted ≤ c

/-- R29, R31, R37 to R42, R54, R55, R62, R63, R68, R71: the allotted limit that a distribution computes, and its effect by charge
state, on the limit, the stage, the protection record and the connector measurement; the entry into PAUSED ends a pending
measurement with NO_READING, and the entry into SOFTSTART from PAUSED makes one pending where the connector mark is set. A
PAUSED bay that it enables has its blank end counted from the latest clock edge known (log entry 6). -/
def Obligations.DistributionAppliesLimits : Prop :=
  ∀ (s : State) (b : Bay), s.startup.phase = .run →
    let r := s.bay b
    let t := s.distribute.bay b
    let q := s.profile b
    let watts := t.charge.keep + t.charge.urgent + t.charge.normal
    let l := t.charge.allotted
    l = min (min (watts * 1000000 / q.voltage / 10 * 10) 3000) (q.maxPower * 1000000 / q.voltage / 10 * 10) ∧
    ((r.charge.state = .softstart ∨ r.charge.state = .bulk ∨ r.charge.state = .taper ∨ r.charge.state = .maintain) →
      (l < 100 → t.charge.state = .paused ∧ t.charge.limit = 0 ∧ t.out.stageEnable = false ∧ t.out.stageLimit = 0 ∧
        t.charge.lowCount = 0 ∧ t.charge.returnCount = 0 ∧ t.charge.fullRun = none ∧ t.charge.highRun = none ∧
        t.charge.level = r.charge.leftLevel ∧ t.measure = none ∧
        t.prot = (r.prot.unmeasured r.measure.isSome).unarmed) ∧
      (100 ≤ l → t.measure = r.measure ∧ t.prot = r.prot ∧ t.charge.state = r.charge.state ∧ t.out.stageLimit = t.charge.limit ∧
        t.charge.limit = if r.charge.state = .softstart then min r.charge.limit l else l)) ∧
    (r.charge.state = .paused →
      (200 ≤ l → t.charge.state = .softstart ∧ t.charge.limit = 100 ∧
        t.out.stageEnable = true ∧ t.out.stageLimit = 100 ∧
        t.measure = (if r.prot.mark = true ∧ r.measure = none then some s.pacing.ticks else r.measure) ∧
        t.prot = { r.prot.unarmed with
          retryTimer := none
          blankEnd := some (s.pacing.ticks * 8000 + s.pacing.prescaler + blankEdgesOf s.force) }) ∧
      (l < 200 → t.charge.state = .paused ∧ t.measure = r.measure ∧ t.prot = r.prot ∧
        t.out = { r.out with crosspoint := t.out.crosspoint })) ∧
    ((r.charge.state = .disabled ∨ r.charge.state = .empty ∨ r.charge.state = .detect ∨ r.charge.state = .retryWait ∨
        r.charge.state = .faulted ∨ r.charge.state = .quarantined) →
      t.charge.state = r.charge.state ∧ t.charge.limit = r.charge.limit ∧ t.measure = r.measure ∧ t.prot = r.prot ∧
      t.out = { r.out with crosspoint := t.out.crosspoint })

/-! ### The cart's power -/

/-- R101: a report-period expiry in RUN ends with a distribution of the applied ceiling it settles; before it, the rail
recovery test (R100), the own entry (R50, R84), the effective budget (R82), the own share of it (R90, which `ShareFillsTiers`
says of `ownShare`) and the thermal factor (R93) have been made afresh, and the timer has been restarted. -/
def Obligations.ReportPeriodTakesFigures : Prop :=
  ∀ s : State, s.startup.phase = .run → s.share.reportTimer = some 0 → s.startup.node ≠ 0#4 →
    let recovers := s.scanner.results[16].any fun code => 2300 ≤ code.toNat
    let factor := if recovers then min 100 (s.share.droopFactor + 10) else s.share.droopFactor
    ∃ u : State, exec .reportPeriodExpiry s = .next u.distribute ∧
      u.share.reportTimer = some (reportPeriodOf s.force) ∧
      u.share.droopFactor = factor ∧ u.share.droop = (s.share.droop && factor != 100) ∧
      u.peer (nodeIndex s.startup.node) =
        { state := .live, keep := sumBays s.keepDemand, urgent := sumBays s.urgentDemand,
          urgentN := countBays fun b => 0 < s.urgentDemand b, normal := sumBays s.normalDemand,
          normalN := countBays fun b => 0 < s.normalDemand b, ceiling := s.share.xt, droop := u.share.droop,
          feedClass := s.startup.feedClass, lastSeq := s.share.sentSeq, missed := 0, age := 0, due := false } ∧
      (∀ i, i ≠ nodeIndex s.startup.node → u.peer i = s.peer i) ∧
      (u.share.budget ≤ 480 + 240 * s.startup.feedClass.toNat ∧
        (∀ i, (u.peer i).state = .live → u.share.budget ≤ 480 + 240 * (u.peer i).feedClass.toNat) ∧
        ∃ i, (u.peer i).state = .live ∧ u.share.budget = 480 + 240 * (u.peer i).feedClass.toNat) ∧
      u.share.shareSelf = u.ownShare u.share.budget ∧
      (s.share.temps = none → u.share.thermal = 0) ∧
      (∀ a c : Int, s.share.temps = some (a, c) →
        let t := max a c
        let start : Int := itemOf s.force 73
        let cutoff : Int := if itemOf s.force 74 ≤ itemOf s.force 73 then itemOf s.force 73 + 1 else itemOf s.force 74
        (t ≤ start → u.share.thermal = 100) ∧ (cutoff ≤ t → u.share.thermal = 0) ∧
        (start < t → t < cutoff → (u.share.thermal : Int) = 100 * (cutoff - t) / (cutoff - start))) ∧
      u.share.xt = s.share.xt ∧ u.share.seq = s.share.seq ∧ u.share.temps = s.share.temps ∧
      u.bays = s.bays ∧ u.startup = s.startup ∧ u.custody = s.custody ∧ u.bids = s.bids ∧ u.lanes = s.lanes

/-- R91, R92, R94, R95, R97: the ceiling chain of a report-period expiry: the headroom, the target, the announced
ceiling ramped from the ramp base, and the applied ceiling. `sending` is the announced ceiling of an own REPORT in
transmission. R95, R102, R104: the REPORT of the expiry: queued, with the raise it holds pending, where the transmit queue
has a place or an unsent REPORT to replace, and it is the only unsent one if at most one was. -/
def Obligations.ReportPeriodSettlesCeiling : Prop :=
  (∀ (s : State) (sending : Option Nat), s.startup.phase = .run → s.share.reportTimer = some 0 → s.startup.node ≠ 0#4 →
    (∀ e, s.bus.txq.find? (·.sending) = some e → sending = match e.frame with
      | .report r => some r.ceiling
      | _ => none) →
    (s.bus.txq.find? (·.sending) = none → sending = none) →
    ∃ u : State, exec .reportPeriodExpiry s = .next u.distribute ∧
      let own := nodeIndex s.startup.node
      let commits := sumPeers fun i => if i = own then 0 else match (s.peer i).state with
        | .live | .silent => (s.peer i).ceiling
        | .lost => min (s.peer i).ceiling (orphanOf s.force)
        | .absent => 0
      let target := min u.share.shareSelf (u.share.budget - reserveOf s.force - commits)
      let base := sending.elim s.share.xt (min s.share.xt)
      let still := u.share.droop = true ∨ ∃ i, i ≠ own ∧ (s.peer i).state = .live ∧ (s.peer i).droop = true
      let fresh := u.share.lastY * u.share.thermal / 100 * u.share.droopFactor / 100
      let settled := if s.bus.muted then min fresh (min (orphanOf s.force) s.share.xt) else fresh
      (target ≤ base → u.share.lastY = target) ∧
      (base < target → still → u.share.lastY = base) ∧
      (base < target → ¬ still → u.share.lastY = min target (base + rampStepOf s.force)) ∧
      (settled ≤ s.share.applied → u.share.applied = settled) ∧
      (s.share.applied < settled → u.share.applied = if s.bus.muted then settled else s.share.applied)) ∧
  ∀ s : State, s.startup.phase = .run → s.share.reportTimer = some 0 → s.startup.node ≠ 0#4 → s.bus.muted = false →
    (s.bus.txq.length < 8 ∨ s.unsent 5 ≠ []) → (s.unsent 5).length ≤ 1 →
    ∃ u : State, exec .reportPeriodExpiry s = .next u.distribute ∧
      let own := u.peer (nodeIndex s.startup.node)
      let fresh := u.share.lastY * u.share.thermal / 100 * u.share.droopFactor / 100
      u.distribute.unsent 5 =
        [{ frame := .report
             { keep := own.keep, urgent := own.urgent, urgentN := own.urgentN, normal := own.normal,
               normalN := own.normalN, ceiling := u.share.lastY, lanes := #v[s.holds 0, s.holds 1, s.holds 2, s.holds 3],
               droop := u.share.droop, feedClass := s.startup.feedClass, seq := s.share.seq,
               raise := if s.share.applied < fresh then some fresh else none }
           sending := false
           doomed := false }]

/-- R88 to R90: the station's own share of a budget: the available power filled tier by tier over the LIVE entries, each
demand tier at the largest level per bay within what is left to it; the grants of the LIVE stations together stay within
the available power, and the own share within the own demands. -/
def Obligations.ShareFillsTiers : Prop :=
  ∀ (s : State) (budget : Nat), (s.peer s.ownIndex).state = .live →
    let q := orphanOf s.force
    let a0 := budget - reserveOf s.force - sumPeers fun i => match (s.peer i).state with
      | .silent => (s.peer i).ceiling
      | .lost => min (s.peer i).ceiling q
      | .absent | .live => 0
    let live := fun (f : Peer → Nat) => sumPeers fun i => if (s.peer i).state = .live then f (s.peer i) else 0
    let sumK := live (·.keep)
    let grantK := fun (p : Peer) => if sumK ≤ a0 then p.keep else p.keep * a0 / sumK
    let a1 := if sumK ≤ a0 then a0 - sumK else 0
    ∃ lu ≤ 1023, ∃ ln ≤ 1023,
      let grantU := fun (p : Peer) => min p.urgent (p.urgentN * lu)
      let grantN := fun (p : Peer) => min p.normal (p.normalN * ln)
      let a2 := a1 - live grantU
      let own := s.peer s.ownIndex
      live grantU ≤ a1 ∧ (∀ l ≤ 1023, live (fun p => min p.urgent (p.urgentN * l)) ≤ a1 → l ≤ lu) ∧
      live grantN ≤ a2 ∧ (∀ l ≤ 1023, live (fun p => min p.normal (p.normalN * l)) ≤ a2 → l ≤ ln) ∧
      s.ownShare budget = grantK own + grantU own + grantN own ∧
      live (fun p => grantK p + grantU p + grantN p) ≤ a0 ∧
      s.ownShare budget ≤ own.keep + own.urgent + own.normal

/-- R85, R86, R162: a peer's entry becomes LIVE with the values of an accepted REPORT, the sequence gap counted for a LIVE or
SILENT entry; it goes SILENT and then LOST at the thresholds, and a LOST node's lane entries become free. Of the lane set: a
free lane of the set becomes the sender's, of a lane held by another node, this station or not, the lower node is the holder,
and a lane outside the set that named the sender becomes free; on a lane that this station held and a lower node takes, a
CONNECTED job leaves the lane and a SETTLING claim picks again, without a LANE FREE; to a higher node it gives no way. -/
def Obligations.PeerTableFollowsReports : Prop :=
  (∀ (f : RxFrame) (s : State), s.awake = true → (s.bus.line = .idle ∨ s.bus.line = .receiving) →
    f.route s.startup.node = .report →
    let p := s.peer (nodeIndex f.src)
    let r := readReport f.payload
    let gap : Nat := (((r.seq : Int) - p.lastSeq - 1) % 16).toNat
    ∃ t : State, exec (.reportReceived f) s = .next t ∧ (s.withLine .gap).UnitsOnly { t with share := s.share } ∧
      t.share = { s.share with peers := t.share.peers } ∧ (∀ i, i ≠ nodeIndex f.src → t.peer i = s.peer i) ∧
      t.peer (nodeIndex f.src) =
        { state := .live, keep := r.keep, urgent := r.urgent, urgentN := r.urgentN, normal := r.normal,
          normalN := r.normalN, ceiling := r.ceiling, droop := r.droop, feedClass := r.feedClass, lastSeq := r.seq,
          missed := if p.state = .live ∨ p.state = .silent then min 255 (p.missed + gap) else p.missed
          age := 0, due := false } ∧
      (∀ x : Lane,
        let sender : Holder := { node := f.src, bay := none, since := s.pacing.uptime }
        t.lanes.table[x] =
          if r.lanes[x] = true then
            match s.lanes.table[x] with
            | none => some sender
            | some h => if f.src < h.node then some sender else some h
          else if s.lanes.table[x].any (·.node == f.src) = true then none else s.lanes.table[x]) ∧
      (∀ e ∈ t.bus.txq, (∃ x, e.frame = .free x) → e ∈ s.bus.txq) ∧
      (f.src < s.startup.node → ∀ x : Lane, r.lanes[x] = true → s.holds x = true →
        (∀ b j, s.laneUse x = .connected b → (s.bay b).slot = some j →
          (∀ c, (t.bay c).out.crosspoint ≠ some x) ∧ t.lanes.drive[x] = false ∧
          ((t.bay b).slot = some { j with state := .waitLane, lane := none } ∨
           (t.bay b).slot = some { j with state := .claiming, lane := none })) ∧
        ∀ b, s.laneUse x = .settling b → t.lanes.claim = some ⟨b, .awaitingLane⟩ ∨
          ∃ y, y ≠ x ∧ t.lanes.claim = some ⟨b, .claimQueued y⟩ ∧ t.Queued (.claim y b)) ∧
      (s.startup.node < f.src → t.lanes.drive = s.lanes.drive ∧
        (∀ b, (s.bay b).jobState = some .connected → t.bay b = s.bay b) ∧
        ∀ b x n, s.lanes.claim = some ⟨b, .settling x n⟩ → t.lanes.claim = s.lanes.claim)) ∧
  ∀ (m : Node) (s : State), s.awake = true → m ≠ 0#4 → m ≠ s.startup.node → (s.peer (nodeIndex m)).due = true →
    ((s.peer (nodeIndex m)).state = .live →
      exec (.peerSilent m) s = .next { s with share := { s.share with
        peers := s.share.peers.set (nodeIndex m) { s.peer (nodeIndex m) with state := .silent, due := false } } }) ∧
    ((s.peer (nodeIndex m)).state = .silent → ∃ t : State, exec (.peerLost m) s = .next t ∧
      s.UnitsOnly { t with share := s.share } ∧
      t.share = { s.share with
        peers := s.share.peers.set (nodeIndex m) { s.peer (nodeIndex m) with state := .lost, due := false } } ∧
      ∀ x : Lane, t.lanes.table[x] = if s.lanes.table[x].any (·.node == m) then none else s.lanes.table[x])

/-- R96, R98, R99: every rail sample counts in the warn run below 22.0 V and in the trip run below 20.5 V, each held at its
length, and ends the run it does not count in; one that brings no run to its length changes nothing else. The sample that
brings a run to its length: the warn event at the fifth sample below 22.0 V, the trip event at the second below 20.5 V:
droop factor, droop flag, applied ceiling, raises discarded, and a distribution if the ceiling changed, its
demands, awake and maintain power among them, those of the record as it stands, the model's choice (log entry 42). A sample
that completes both runs makes a warn event and then a trip event, in the order that the model chooses (log entry 34). -/
def Obligations.RailSagLowersCeiling : Prop :=
  ∀ (s : State) (p : Pass) (code : BitVec 12), s.startup.phase = .run → s.scanner.pass = some p → p.next = 16 →
    let after := fun (limit : Nat) (u : State) => u.bays = s.bays ∧
      u.share.droopFactor = min s.share.droopFactor limit ∧ u.share.droop = true ∧
      u.share.applied = min s.share.applied
        (s.share.lastY * s.share.thermal / 100 * min s.share.droopFactor limit / 100) ∧
      u.share.lastY = s.share.lastY ∧ u.share.thermal = s.share.thermal ∧ u.share.xt = s.share.xt ∧
      u.share.warnRun = min 5 (s.share.warnRun + 1) ∧
      u.share.tripRun = (if code.toNat < 2050 then min 2 (s.share.tripRun + 1) else 0) ∧
      u.bus = { s.bus with txq := s.bus.txq.map fun e => { e with frame := match e.frame with
        | .report r => .report { r with raise := none }
        | other => other } }
    let warn := if code.toNat < 2200 then min 5 (s.share.warnRun + 1) else 0
    let trip := if code.toNat < 2050 then min 2 (s.share.tripRun + 1) else 0
    (∃ t : State, exec (.conversionEnd code) s = .next t ∧ t.share.warnRun = warn ∧ t.share.tripRun = trip ∧
      ((s.share.warnRun ≠ 4 ∨ 2200 ≤ code.toNat) → (s.share.tripRun ≠ 1 ∨ 2050 ≤ code.toNat) →
        t = { s with
          scanner := t.scanner, pacing := t.pacing, share := { s.share with warnRun := warn, tripRun := trip } })) ∧
    (∀ limit : Nat,
      (limit = 50 ∧ s.share.warnRun = 4 ∧ code.toNat < 2200 ∧ (s.share.tripRun ≠ 1 ∨ 2050 ≤ code.toNat) ∨
       limit = 0 ∧ s.share.tripRun = 1 ∧ code.toNat < 2050 ∧ s.share.warnRun ≠ 4) →
      ∃ u : State, exec (.conversionEnd code) s =
        .next (if u.share.applied = s.share.applied then u else u.distribute) ∧ after limit u) ∧
    (s.share.warnRun = 4 → s.share.tripRun = 1 → code.toNat < 2050 → ∃ u v : State, after 50 u ∧
      (let w := if u.share.applied = s.share.applied then u else u.distribute
       v.bays = w.bays ∧ v.pacing = w.pacing ∧ v.startup = w.startup ∧ v.lanes = w.lanes ∧ v.bids = w.bids ∧
       v.share = { w.share with droopFactor := 0, applied := 0 } ∧
       exec (.conversionEnd code) s = .next (if w.share.applied = 0 then v else v.distribute)))

/-! ### Taken requests: the checks, and custody -/

/-- R123, R124, R125, R183, R184, R185: a taken request that is turned away: in CONFIG with NOT_RUNNING, but a QUERY only
for its length; in RUN with NOT_AUTHORIZED where the authority table does not admit its source (for a QUERY: does not name
it), with a REFUSED record for an OPEN_BAY or OPEN_ALL; with BAD_ARG where its length is not one its kind takes. That an
OPEN_ALL of wrong length from a SERVICE node is counted first (`afterTaking`), and at the third time grants, is the model's
reading (log entry 20); that a QUERY of unknown target belongs to QUERY_BAY is its choice (log entry 3). -/
def Obligations.RequestsTurnedAway : Prop :=
  (∀ (k : RequestKind) (c : Instr) (q : Request) (s : State),
    (k, c) ∈ [(.openBay, .openBay), (.openAll, .openAll), (.withdraw, .withdraw), (.provision, .provision),
      (.jobResult, .jobResult), (.tabletInfo, .tabletInfo), (.connectorCheck, .connectorCheck),
      (.clearFault, .clearFault), (.fetchLog, .fetchLog), (.restart, .restart)] →
    s.handler.taken = some q → q.kind = k →
    let u := s.afterTaking q
    let refused := fun (t : State) (why : Reason) =>
      exec c s = .next (t.offerOrDrop (.answer q.src (.refused k q.number why)))
    (s.startup.phase = .config → refused { s with handler := { s.handler with taken := none } } .notRunning) ∧
    (s.startup.phase = .run → s.permitted k q.src = false →
      (k ≠ .openBay → k ≠ .openAll → refused u .notAuthorized) ∧
      (k = .openAll → refused (u.addRecord 0 .refused (some q.src) (some q.number) none none) .notAuthorized) ∧
      (k = .openBay → ∀ b : Bay, 3 ≤ q.payload.length → byteAt q.payload 2 = b.val + 1 →
        refused (u.addRecord (b.val + 1) .refused (some q.src) (some q.number) none none) .notAuthorized) ∧
      (k = .openBay → (q.payload.length < 3 ∨ byteAt q.payload 2 = 0 ∨ 8 < byteAt q.payload 2) →
        refused (u.addRecord 0 .refused (some q.src) (some q.number) none none) .notAuthorized)) ∧
    (s.startup.phase = .run → s.permitted k q.src = true → q.lengthFits = false → refused u .badArg)) ∧
  ∀ (c : Instr) (q : Request) (s : State), s.handler.taken = some q → q.kind = .query →
    (c = .queryBay ∧ (q.target = some .bay ∨ q.target = none) ∨ c = .queryJob ∧ q.target = some .job ∨
     c = .queryPeers ∧ q.target = some .peers ∨ c = .queryShelf ∧ q.target = some .shelf) →
    let u := s.afterTaking q
    let refused := fun (why : Reason) => exec c s = .next (u.offerOrDrop (.answer q.src (.refused .query q.number why)))
    (s.startup.phase = .run → s.known q.src = false → refused .notAuthorized) ∧
    ((s.startup.phase = .config ∨ s.startup.phase = .run ∧ s.known q.src = true) → q.lengthFits = false → refused .badArg)

/-- R110, R111, R124: an OPEN_BAY that the authority table admits: its checks in order, and the grant, which on a GRANTED
bay replaces the earlier one. -/
def Obligations.OpenBayGrants : Prop :=
  ∀ (q : Request) (s : State), s.Admits q .openBay →
    let u := s.afterTaking q
    let refused := fun (why : Reason) =>
      exec .openBay s = .next (u.offerOrDrop (.answer q.src (.refused .openBay q.number why)))
    ((byteAt q.payload 2 = 0 ∨ 8 < byteAt q.payload 2) → refused .badArg) ∧
    ∀ b : Bay, byteAt q.payload 2 = b.val + 1 →
      let r := s.bay b
      let closed := r.lock.state = .secured ∨ r.lock.state = .granted
      let busy := r.jobState = some .connected ∧ s.authorized q.src .service = false
      (r.populated = false → refused .noBay) ∧
      (r.populated = true → ¬ closed → refused .bayState) ∧
      (r.populated = true → closed → busy → refused .busyJob) ∧
      (r.populated = true → closed → ¬ busy →
        ∃ t : State, exec .openBay s = .next (t.offerOrDrop (.answer q.src (.accepted .openBay q.number))) ∧
          (u.setBay b (r.grantedFor (grantWindowOf s.force)
            { reason := .openBay, requester := q.src, request := q.number })).UnitsOnly t)

/-- R125, R126: the open-all confirmation: an OPEN_ALL of a SERVICE node starts or raises the count, the one that brings
it to 3 grants every populated SECURED or GRANTED bay, and each is ACCEPTED; any other request of the counted source,
and a RESTART of any SERVICE node, clears it; nothing else changes it. -/
def Obligations.OpenAllConfirms : Prop :=
  (∀ (q : Request) (s : State), s.Admits q .openAll →
    let again := s.custody.allSource = some q.src ∧ 0 < s.custody.allCount
    let counted := { s with
      handler := { s.handler with taken := none }
      custody := { s.custody with
        allSource := some q.src, allCount := if again then min 3 (s.custody.allCount + 1) else 1 } }
    (¬ (again ∧ s.custody.allCount = 2) →
      exec .openAll s = .next (counted.offerOrDrop (.answer q.src (.accepted .openAll q.number)))) ∧
    (again → s.custody.allCount = 2 → ∃ u t : State,
      exec .openAll s = .next (t.offerOrDrop (.answer q.src (.accepted .openAll q.number))) ∧ u.UnitsOnly t ∧
      u = { counted with bays := u.bays } ∧
      ∀ b, u.bay b =
        if (s.bay b).populated = true ∧ ((s.bay b).lock.state = .secured ∨ (s.bay b).lock.state = .granted)
        then (s.bay b).grantedFor (grantWindowOf s.force) { reason := .openAll, requester := q.src, request := q.number }
        else s.bay b)) ∧
  ∀ (q : Request) (s : State), s.startup.phase = .run → (q.kind ≠ .openAll ∨ s.authorized q.src .service = false) →
    s.afterTaking q = { s with
      handler := { s.handler with taken := none }
      custody :=
        if q.kind ≠ .openAll ∧ s.custody.allSource = some q.src ∨ q.kind = .restart ∧ s.authorized q.src .service = true
        then { s.custody with allSource := none, allCount := 0 } else s.custody }

/-- R127, R148: a WITHDRAW: its checks in order, the ending of a grant with a WITHDRAWN record, and the withdrawal of the
pending bid it names, which a SENDING one meets by the loss of its reservation and the void mark. -/
def Obligations.WithdrawEndsGrantOrBid : Prop :=
  ∀ (q : Request) (s : State), s.Admits q .withdraw →
    let u := s.afterTaking q
    let n : ReqNo := BitVec.ofNat 16 (wordAt q.payload 3)
    let refused := fun (t : State) (why : Reason) =>
      exec .withdraw s = .next (t.offerOrDrop (.answer q.src (.refused .withdraw q.number why)))
    ((byteAt q.payload 2 = 0 ∨ 8 < byteAt q.payload 2) → refused u .badArg) ∧
    ∀ b : Bay, byteAt q.payload 2 = b.val + 1 →
      let r := s.bay b
      ((∀ e, s.bidFor q.src n = some e → e.bay ≠ b) →
        (r.populated = false → refused u .noBay) ∧
        (r.populated = true → (∀ g, r.lock.grant = some g → g.request ≠ n) → refused u .bayState) ∧
        ∀ g, r.populated = true → r.lock.grant = some g → g.request = n →
          (g.requester ≠ q.src → refused u .notAuthorized) ∧
          (g.requester = q.src → r.lock.state ≠ .granted → refused u .bayState)) ∧
      (∀ g, r.populated = true → r.lock.grant = some g → g.request = n → g.requester = q.src → r.lock.state = .granted →
        ∃ t : State, exec .withdraw s = .next (t.offerOrDrop (.answer q.src (.accepted .withdraw q.number))) ∧
          ((u.addRecord (b.val + 1) .withdrawn (some g.requester) (some g.request) r.charge.tag r.charge.level).setBay b
            { r with lock := Lock.closed, out := { r.out with latch := false } }).UnitsOnly t) ∧
      ∀ e, s.bidFor q.src n = some e → e.bay = b → r.populated = true → r.lock.grant = none →
        ∃ t : State, refused t .bayState ∧ u.UnitsOnly t ∧
          (e.sending = false → s.BidGone t e) ∧
          (e.sending = true →
            (r.reservation = some { source := e.source, request := e.request } → (t.bay b).reservation = none) ∧
            t.bids = s.bids.map fun x => if x.isFor e.source e.request then { x with void := true } else x)

/-! ### Bids -/

/-- R137, R138, R140: the bay offered for a DISPENSE without a tag and for a RETURN, with its score: an eligible bay of the
highest score, or of the lowest fault score, the lower bay number where they tie; a RETURN whose tag is an eligible
bay's departed tag goes to such a bay with score 255. A bay in MAINTAIN has a level, as `ChargeFitsKept` says. -/
def Obligations.OffersChooseBay : Prop :=
  (∀ (s : State) (minLevel : Nat), (∀ b, (s.bay b).charge.state = .maintain → (s.bay b).charge.level ≠ none) →
    (s.offerDispense minLevel = none ↔ ∀ b, ¬ s.MayDispense minLevel b) ∧
    ∀ b score, s.offerDispense minLevel = some (b, score) → s.MayDispense minLevel b ∧ (s.bay b).Score score ∧
      (∀ c other, s.MayDispense minLevel c → (s.bay c).Score other → other < score ∨ other = score ∧ b ≤ c) ∧
      ((∀ l, (s.bay b).charge.level = some l → l ≤ 1000) → score ≤ 245)) ∧
  ∀ (s : State) (tag : Option Tag),
    (s.offerReturn tag = none ↔ ∀ b, ¬ s.MayReturn b) ∧
    ∀ b score, s.offerReturn tag = some (b, score) → s.MayReturn b ∧
      ((∃ c v, tag = some v ∧ s.MayReturn c ∧ (s.bay c).charge.departed = some v) →
        score = 255 ∧ (s.bay b).charge.departed = tag) ∧
      ((∀ c v, tag = some v → s.MayReturn c → (s.bay c).charge.departed ≠ some v) →
        (score : Int) = max 1 (min 254 (64 + 16 * (countBays s.eligibleReturn : Int) - 4 * (s.bay b).prot.score)) ∧
        (∀ c, s.eligibleReturn c = true ↔ s.MayReturn c) ∧
        ∀ c, s.MayReturn c → (s.bay b).prot.score < (s.bay c).prot.score ∨
          (s.bay b).prot.score = (s.bay c).prot.score ∧ b ≤ c)

/-- R123, R125, R136, R137, R139 to R141, R166: a DISPENSE or RETURN frame that may be bid for, with a bay to offer: entry,
reservation, window and BID frame; a tagged DISPENSE ends a live job that is not CONNECTED. One that the bid unit passes over
(before RUN, on a muted station, from a source without PANEL, for a request with an entry, with four entries or a full
transmit queue, of another length, or with no eligible bay) makes no bid: it changes the line and, in RUN, the open-all
confirmation of its source, and nothing else. That neither raises the hold count of R181 is the model's choice (log entry
35); a payload too short for a request number takes a free value from the model's counter (log entry 4). -/
def Obligations.BidsArePlaced : Prop :=
  ∀ (f : RxFrame) (s : State) (b : Bay) (score : Nat),
    let minLevel := min 100 (byteAt f.payload 2)
    let u : State := { s with
      bus := { s.bus with line := .gap, recessive := 0, joined := false }
      custody := if s.startup.phase = .run ∧ s.custody.allSource = some f.src
        then { s.custody with allSource := none, allCount := 0 } else s.custody }
    (∀ (k : RequestKind) (c : Instr), (k = .dispense ∧ c = .dispense f ∨ k = .returnTablet ∧ c = .returnTablet f) →
      s.CanHear f (.request k) → s.PassesOver f k →
      exec c s = .next { u with freeCount := s.freeCount + (if f.payload.length < 2 then 1 else 0) }) ∧
    (s.MayBidFor f .dispense → f.payload.length = 3 → s.offerDispense minLevel = some (b, score) →
      ∃ t : State, exec (.dispense f) s = .next t ∧ u.UnitsOnly t ∧ s.BidPlaced t f .dispense b score minLevel false) ∧
    (∀ v : Tag, s.MayBidFor f .dispense → f.payload.length = 7 → tagAt f.payload 3 = v →
      (s.bay b).charge.tag = some v → (∀ c, c < b → (s.bay c).charge.tag ≠ some v) → s.MayDispenseTagged b →
      ∃ t : State, exec (.dispense f) s = .next t ∧ u.UnitsOnly t ∧ s.BidPlaced t f .dispense b 255 minLevel true ∧
        ∀ j, (s.bay b).slot = some j → j.state ≠ .ended → (t.bay b).slot =
          some { j with state := .ended, outcome := some .aborted, lane := none, unread := true }) ∧
    (s.MayBidFor f .returnTablet → (f.payload.length = 2 ∨ f.payload.length = 6) → (s.bay b).hasLiveJob = false →
      s.offerReturn (if f.payload.length = 6 then some (tagAt f.payload 2) else none) = some (b, score) →
      ∃ t : State, exec (.returnTablet f) s = .next t ∧ u.UnitsOnly t ∧
        s.BidPlaced t f .returnTablet b score 0 (decide (score = 255)))

/-- R143 to R145: the window of a QUEUED bid expires, or another station's BID for its request is heard: frame,
reservation and entry go. A window that expires while the BID is in an attempt waits for its end. A BID for a request
without an entry changes nothing but the line. R142: a reserved bay that stops meeting the conditions of its reservation
loses it at that event, a QUEUED bid being withdrawn and a SENDING one made void: a bay whose door is forced, and in general
a bay at a presence or door event, a sample, a fault, or a request OPEN_BAY, PROVISION or TABLET_INFO for it; a bay that goes
on meeting them keeps it. That the tag a tagged DISPENSE named is no such condition, so that the reservation stands when a
TABLET_INFO gives the bay another tag, is the model's reading (log entry 19). That no step leaves a reservation whose conditions are not met is in `ReservationsFitKept`. -/
def Obligations.BidsAreWithdrawn : Prop :=
  (∀ (s : State) (source : Node) (request : ReqNo) (f : RxFrame),
    (∀ e, s.bidFor source request = some e → e.window = some 0 →
      (e.sending = false → ∃ t : State, exec (.bidWindowExpiry source request) s = .next t ∧ s.UnitsOnly t ∧ s.BidGone t e) ∧
      (e.sending = true → exec (.bidWindowExpiry source request) s = .next { s with
        bids := s.bids.map fun x =>
          if x.source = e.source ∧ x.request = e.request then { x with window := none, withdrawal := true } else x })) ∧
    (s.awake = true → (s.bus.line = .idle ∨ s.bus.line = .receiving) → f.route s.startup.node = .bid →
      readBid f.payload = { source := source, request := request } →
      (s.bidFor source request = none → exec (.bidReceived f) s = .next (s.withLine .gap)) ∧
      ∀ e, s.bidFor source request = some e → e.sending = false →
        ∃ t : State, exec (.bidReceived f) s = .next t ∧ (s.withLine .gap).UnitsOnly t ∧ s.BidGone t e)) ∧
  ∀ (s : State) (b : Bay) (e : BidEntry), (s.bay b).reservation = some { source := e.source, request := e.request } →
    s.bids.find? (fun x => x.isFor e.source e.request && x.bay == b) = some e →
    let lost := fun t : State => (t.bay b).reservation = none ∧ (e.sending = false → s.BidGone t e) ∧
      (e.sending = true → t.bids = s.bids.map fun x => if x.isFor e.source e.request then { x with void := true } else x)
    ((s.bay b).door = { value := false, count := 20 } → s.HandsOn b → (s.bay b).lock.state = .secured →
      ∃ t : State, exec (.doorChange b) s = .next t ∧ (t.bay b).lock.state = .forced ∧ lost t) ∧
    ∀ c : Instr, s.awake = true → s.Serves e →
      (s.MayFault c b ∨ c = .presenceChange b ∨ c = .doorChange b ∨
        c ∈ [.openBay, .provision, .tabletInfo] ∧ ∃ q, s.handler.taken = some q ∧ byteAt q.payload 2 = b.val + 1) →
      ∃ t : State, exec c s = .next t ∧ (¬ t.Serves e → lost t) ∧
        (t.Serves e → (t.bay b).reservation = (s.bay b).reservation ∧ t.bids = s.bids)

/-! ### Lanes and jobs -/

/-- R150 to R152, R166: a PROVISION that the authority table admits: its checks in order, and the job placed, which
leaves QUEUED at once where the bay charges, and ends ABORTED on a muted station. A job that waits in QUEUED leaves it when
its bay enters SOFTSTART, from DETECT, RETRY_WAIT or, at a distribution, PAUSED; a job in WAIT_LEVEL enters WAIT_LANE when a
sample or a TABLET_INFO brings the level to the minimum, and at a sample that enters MAINTAIN, even one that also faults the
bay into RETRY_WAIT (R47; that the charge controller takes the sample before the protection unit is the model's choice, log
entry 9); until then the job stays as it is. -/
def Obligations.ProvisionPlacesJob : Prop :=
  (∀ (q : Request) (s : State), s.Admits q .provision →
    let u := s.afterTaking q
    let refused := fun (why : Reason) =>
      exec .provision s = .next (u.offerOrDrop (.answer q.src (.refused .provision q.number why)))
    ((byteAt q.payload 2 = 0 ∨ 8 < byteAt q.payload 2) → refused .badArg) ∧
    ∀ b : Bay, byteAt q.payload 2 = b.val + 1 →
      let r := s.bay b
      (jobKindOf (byteAt q.payload 3) = none → refused .badArg) ∧
      ∀ kind, jobKindOf (byteAt q.payload 3) = some kind →
        let stopped := r.charge.state = .faulted ∨ r.charge.state = .quarantined
        let present := r.populated = true ∧ r.presence.value = true
        (¬ present → refused .noBay) ∧ (present → stopped → refused .bayState) ∧
        (present → ¬ stopped → r.hasLiveJob = true → refused .busyJob) ∧
        (present → ¬ stopped → r.hasLiveJob = false → r.lock.state ≠ .secured → refused .bayState) ∧
        (present → ¬ stopped → r.hasLiveJob = false → r.lock.state = .secured →
          let q0 : Job :=
            { id := BitVec.ofNat 16 (wordAt q.payload 4), kind := kind, requester := q.src,
              timeLimit := max 1 (byteAt q.payload 6), elapsed := 0, state := .queued, lane := none, suspensions := 0,
              arrival := s.lanes.arrivals, outcome := none, unread := false }
          ∃ t : State, exec .provision s = .next (t.offerOrDrop (.answer q.src (.accepted .provision q.number))) ∧
            (s.lanes.arrivals < 4294967295 → t.lanes.arrivals = s.lanes.arrivals + 1 ∧ u.UnitsOnly t) ∧
            (s.bus.muted = true → (t.bay b).slot =
              some { q0 with state := .ended, outcome := some .aborted, unread := true }) ∧
            (s.bus.muted = false →
              (r.charge.state.stageOn = false → (t.bay b).slot = some q0) ∧
              (r.charge.state.stageOn = true → kind ≠ .identify → s.levelMet b = false →
                (t.bay b).slot = some { q0 with state := .waitLevel }) ∧
              (r.charge.state.stageOn = true → (kind = .identify ∨ s.levelMet b = true) → t.WaitsForLane b q0)))) ∧
  ∀ (s : State) (b : Bay) (j : Job), (s.bay b).slot = some j → (s.bay b).presence.value = true →
    let c := (s.bay b).charge
    (∀ i : Instr, j.state = .queued →
      (i = .detectTimerExpiry b ∧ c.state = .detect ∧ c.detectTimer = some 0 ∨
       i = .retryDelayExpiry b ∧ c.state = .retryWait ∧ (s.bay b).prot.retryTimer = some 0) →
      ∃ t : State, exec i s = .next t ∧
        if 100 ≤ c.allotted then t.LeavesQueued b j else (t.bay b).slot = some j) ∧
    (s.startup.phase = .run → c.state ≠ .faulted → c.state ≠ .quarantined →
      let t := s.distribute
      (j.state = .queued → if (t.bay b).charge.state.stageOn = true then t.LeavesQueued b j else (t.bay b).slot = some j) ∧
      (j.state = .waitLevel → if t.levelMet b = true then t.WaitsForLane b j else (t.bay b).slot = some j)) ∧
    (∀ (p : Pass) (current code : BitVec 12), s.Samples b p current → j.state = .waitLevel → c.state ≠ .maintain →
      let mA : Int := 2 * (current.toNat : Int) - 4096
      let full := c.state = .taper ∧ mA < (s.profile b).fullCurrent ∧ c.fullRun.getD p.tick + 60000 ≤ p.tick
      ∃ t : State, exec (.conversionEnd code) s = .next t ∧
        ((t.bay b).charge.state ≠ .faulted → (t.bay b).charge.state ≠ .quarantined →
          if full ∨ t.levelMet b = true then t.WaitsForLane b j else (t.bay b).slot = some j)) ∧
    ∀ q : Request, s.Admits q .tabletInfo → byteAt q.payload 2 = b.val + 1 → (s.bay b).populated = true →
      c.state ≠ .faulted → c.state ≠ .quarantined → j.state = .waitLevel →
      ∃ t : State, exec .tabletInfo s = .next (t.offerOrDrop (.answer q.src (.accepted .tabletInfo q.number))) ∧
        if t.levelMet b = true then t.WaitsForLane b j else (t.bay b).slot = some j

/-- R16, R155, R159, R164 to R167: a live job ends EXPIRED at its time limit, with the result of an accepted JOB_RESULT, and
ABORTED at the removal of its tablet and where its bay becomes FAULTED or QUARANTINED: what the ending leaves in the slot, and
on the lanes the lane given up, with its LANE FREE queued where there is room, or the claim abandoned by its phase. A
JOB_RESULT that fits no CONNECTED job of its id is refused. That its LANE FREE is offered before its ANSWER, and so takes the
last place of the transmit queue, is the model's reading of R183 (log entry 17). That a CONNECTED job's bay has its awake power, which the clause
on a fault asks for, is an invariant (`LanesFitKept`). -/
def Obligations.JobsEnd : Prop :=
  (∀ (b : Bay) (s : State) (j : Job), (s.bay b).slot = some j → j.state ≠ .ended → j.elapsed = j.timeLimit * 60000 →
    ∃ t : State, exec (.jobTimeLimitExpiry b) s = .next t ∧ s.UnitsOnly t ∧ s.JobEnded t b j .expired) ∧
  (∀ (b : Bay) (s : State) (j : Job), (s.bay b).presence = { value := true, count := 50 } → s.HandsOn b →
    (s.bay b).charge.state ≠ .disabled → (s.bay b).slot = some j → j.state ≠ .ended →
    ∃ t : State, exec (.presenceChange b) s = .next t ∧ (t.bay b).charge.provisioned = false ∧
      (t.bay b).slot = some { j with state := .ended, outcome := some .aborted, lane := none, unread := true } ∧
      s.LanesLeft t b j 1) ∧
  (∀ (c : Instr) (b : Bay) (s : State) (j : Job), s.MayFault c b → (s.bay b).charge.state.stageOn = true →
    (s.bay b).slot = some j → j.state ≠ .ended → (j.state = .connected → s.powered b = true) →
    ∃ t : State, exec c s = .next t ∧
      (((t.bay b).charge.state = .faulted ∨ (t.bay b).charge.state = .quarantined) → s.JobEnded t b j .aborted)) ∧
  ∀ (q : Request) (s : State), s.Admits q .jobResult →
    let u := s.afterTaking q
    let refused := fun (why : Reason) =>
      exec .jobResult s = .next (u.offerOrDrop (.answer q.src (.refused .jobResult q.number why)))
    ((byteAt q.payload 2 = 0 ∨ 8 < byteAt q.payload 2) → refused .badArg) ∧
    ∀ b : Bay, byteAt q.payload 2 = b.val + 1 →
      (byteAt q.payload 5 ≠ 1 → byteAt q.payload 5 ≠ 2 → refused .badArg) ∧
      ∀ outcome : JobOutcome, (byteAt q.payload 5 = 1 ∧ outcome = .done ∨ byteAt q.payload 5 = 2 ∧ outcome = .failed) →
        ((∀ j, (s.bay b).slot = some j → j.state = .connected → j.id ≠ BitVec.ofNat 16 (wordAt q.payload 3)) →
          refused .noJob) ∧
        ∀ j, (s.bay b).slot = some j → j.state = .connected → j.id = BitVec.ofNat 16 (wordAt q.payload 3) →
          ∃ t : State, exec .jobResult s = .next (t.offerOrDrop (.answer q.src (.accepted .jobResult q.number))) ∧
            u.UnitsOnly t ∧ s.JobEnded t b j outcome

/-- R155, R159, R163: a distribution that leaves a CONNECTED job's bay below the awake power, or that makes it PAUSED, and a
fault that makes it RETRY_WAIT, suspend the job: its lane is given up, its suspension count rises, and it is SUSPENDED, or at
the third ENDED ABORTED; any other distribution leaves the job as it is. A SUSPENDED job returns to WAIT_LANE at the
distribution that finds its bay charging with the awake power. A CLAIMING job whose bay stops being ready, here by a
distribution, a fault, a forced door or an OPEN_BAY, returns to WAIT_LANE with its claim abandoned. A LANE FREE is stated
queued where the transmit queue has room for every lane of the station (a distribution) or for one frame; that at an OPEN_BAY
it takes the last place before the ANSWER is the model's reading of R183 (log entry 17). -/
def Obligations.JobsSuspend : Prop :=
  (∀ (s : State) (b : Bay) (j : Job), s.startup.phase = .run → (s.bay b).slot = some j →
    (s.bay b).presence.value = true → (s.bay b).charge.state ≠ .faulted → (s.bay b).charge.state ≠ .quarantined →
    let t := s.distribute
    let st := (t.bay b).charge.state
    (j.state = .connected →
      if st = .paused ∨ st = .retryWait ∨ (t.bay b).charge.keep < (s.profile b).awakePower then s.JobSuspended t b j 4
      else (t.bay b).slot = some j) ∧
    (j.state = .suspended →
      if (s.profile b).awakePower ≤ (t.bay b).charge.keep ∧ st.stageOn = true then t.WaitsForLane b j
      else (t.bay b).slot = some j) ∧
    (j.state = .claiming → t.ready b = false → (t.bay b).slot = some { j with state := .waitLane } ∧
      s.LanesLeft t b j 4)) ∧
  (∀ (c : Instr) (b : Bay) (s : State) (j : Job), s.MayFault c b → (s.bay b).charge.state.stageOn = true →
    (s.bay b).presence.value = true → (s.bay b).slot = some j → j.state = .connected →
    ∃ t : State, exec c s = .next t ∧ ((t.bay b).charge.state = .retryWait → s.JobSuspended t b j 1)) ∧
  ∀ (c : Instr) (b : Bay) (s : State) (j : Job), (s.bay b).slot = some j → j.state = .claiming → s.ready b = true →
    (s.MayFault c b ∨ c = .doorChange b ∨
      c = .openBay ∧ ∃ q, s.handler.taken = some q ∧ byteAt q.payload 2 = b.val + 1) →
    ∃ t : State, exec c s = .next t ∧
      (t.ready b = false → (t.bay b).charge.state ≠ .faulted → (t.bay b).charge.state ≠ .quarantined →
        (t.bay b).slot = some { j with state := .waitLane } ∧ s.LanesLeft t b j 1)

/-- R153, R156, R157: while no claim is in flight the ready job with the smallest arrival order enters CLAIMING, of two with
one arrival order the lower bay's, which is the model's choice (log entry 39); a claim that waits for a lane picks, when a
busy line goes idle, the lowest lane that is free in the table and on its line, whatever the keep allotment. The selection is stated of `laneProgress`, which the model runs at every event that may let it happen,
and the pick is made at every BUSY_LINE_CHANGE, one that asserts a line included, which the model reads into R153 and R157
(log entry 31). -/
def Obligations.OldestReadyJobClaims : Prop :=
  (∀ s : State, s.lanes.claim = none → (∃ b, (s.bay b).jobState = some .waitLane ∧ s.ready b = true) →
    ∃ b ph, (s.bay b).jobState = some .waitLane ∧ s.ready b = true ∧
      (∀ c, (s.bay c).jobState = some .waitLane → s.ready c = true →
        s.arrivalOf b < s.arrivalOf c ∨ s.arrivalOf b = s.arrivalOf c ∧ b ≤ c) ∧
      (s.laneProgress.bay b).jobState = some .claiming ∧ s.laneProgress.lanes.claim = some ⟨b, ph⟩ ∧
      (∀ c, c ≠ b → (s.laneProgress.bay c).slot = (s.bay c).slot) ∧ (s.powered b = false → ph = .awaitingPower)) ∧
  ∀ (s : State) (x y : Lane) (b : Bay) (busy : Bool),
    let u := { s with inputs := { s.inputs with busy := s.inputs.busy.set x busy } }
    (∃ t : State, exec (.busyLineChange x busy) s = .next t ∧ u.UnitsOnly t) ∧
    (s.lanes.claim = some ⟨b, .awaitingLane⟩ → s.startup.phase = .run → s.bus.muted = false →
      s.bus.txq.length < 8 → s.lanes.table[y] = none → u.busyLine y = false →
      (∀ z, z < y → s.lanes.table[z] ≠ none ∨ u.busyLine z = true) →
      ∃ t : State, exec (.busyLineChange x busy) s = .next t ∧ u.UnitsOnly t ∧
        t.lanes.claim = some ⟨b, .claimQueued y⟩ ∧ t.Queued (.claim y b))

/-- R155, R158: the settle timer expires: the bay is connected on an idle line with the awake power allotted; on a busy
line, or without the power, the lane is given up, with its LANE FREE queued where there is room. -/
def Obligations.SettleDecidesConnection : Prop :=
  ∀ (s : State) (b : Bay) (x : Lane) (j : Job), s.lanes.claim = some ⟨b, .settling x 0⟩ → (s.bay b).slot = some j →
    ∃ t : State, exec .settleExpiry s = .next t ∧ s.UnitsOnly t ∧
      (s.busyLine x = false → s.powered b = true →
        (t.bay b).out.crosspoint = some x ∧ t.lanes.drive[x] = true ∧
        (t.bay b).slot = some { j with state := .connected, lane := some x } ∧
        (s.HasRoom 1 → t.Queued (.answer j.requester (.jobConnected j.id b x)))) ∧
      (s.busyLine x = true → s.LaneGivenUp t x 1 ∧ t.WaitsForLane b j) ∧
      (s.busyLine x = false → s.powered b = false → s.LaneGivenUp t x 1 ∧
        t.lanes.claim = some ⟨b, .awaitingPower⟩ ∧ (t.bay b).slot = some j)

/-- R154, R157, R160, R161: LANE CLAIM and LANE FREE frames of other nodes: the table entry, and the station's giving way on a
lane it is claiming or using to a lower node: a claim picks again at once, the lowest lane free in the table and on its line,
whatever the keep allotment, or waits for one; a CONNECTED job leaves the lane; no LANE FREE is queued. -/
def Obligations.LaneFramesHeard : Prop :=
  ∀ (s : State) (f : RxFrame) (x : Lane), s.awake = true → (s.bus.line = .idle ∨ s.bus.line = .receiving) →
    f.laneByteLane = x.val + 1 →
    (f.route s.startup.node = .laneFree → ∃ t : State, exec (.laneFreeReceived f) s = .next t ∧
      (s.withLine .gap).UnitsOnly t ∧ (∀ y, y ≠ x → t.lanes.table[y] = s.lanes.table[y]) ∧
      t.lanes.table[x] = if s.lanes.table[x].any (·.node == f.src) then none else s.lanes.table[x]) ∧
    (f.route s.startup.node = .laneClaim → ∃ t : State, exec (.laneClaimReceived f) s = .next t ∧
      (s.withLine .gap).UnitsOnly t ∧ (∀ y, y ≠ x → t.lanes.table[y] = s.lanes.table[y]) ∧
      (∀ e ∈ t.bus.txq, (∃ y, e.frame = .free y) → e ∈ s.bus.txq) ∧
      (((∃ b, s.laneUse x = .settling b ∨ s.laneUse x = .connected b) ∧ s.startup.node < f.src →
        t.lanes.table[x] = s.lanes.table[x])) ∧
      ((s.laneUse x = .none ∨ (∃ b, s.laneUse x = .claimQueued b) ∨ f.src < s.startup.node) →
        ∃ h, t.lanes.table[x] = some h ∧ h.node = f.src ∧ h.bay = some f.laneByteBay ∧
          (s.lanes.table[x].all (·.node != f.src) = true → h.since = s.pacing.uptime)) ∧
      (∀ b, (s.laneUse x = .claimQueued b ∨ s.laneUse x = .settling b ∧ f.src < s.startup.node) →
        (∀ y, s.startup.phase = .run → s.bus.muted = false → s.bus.txq.length < 8 →
          y ≠ x → s.lanes.table[y] = none → s.busyLine y = false →
          (∀ z, z < y → z = x ∨ s.lanes.table[z] ≠ none ∨ s.busyLine z = true) →
          t.lanes.claim = some ⟨b, .claimQueued y⟩ ∧ t.Queued (.claim y b)) ∧
        ((∀ y, y = x ∨ s.lanes.table[y] ≠ none ∨ s.busyLine y = true) → t.lanes.claim = some ⟨b, .awaitingLane⟩)) ∧
      ∀ b j, s.laneUse x = .connected b → (s.bay b).slot = some j → f.src < s.startup.node →
        (∀ c, (t.bay c).out.crosspoint ≠ some x) ∧ t.lanes.drive[x] = false ∧
        ((t.bay b).slot = some { j with state := .waitLane, lane := none } ∨
         (t.bay b).slot = some { j with state := .claiming, lane := none })) ∧
    (f.src = s.startup.node → exec (.laneFreeReceived f) s = .next s ∧ exec (.laneClaimReceived f) s = .next s)

/-! ### The cart bus: sending -/

/-- R176, R177: an offer to the transmit queue: a REPORT or FLOW takes the place of an unsent one of its class; any frame
goes behind the queued frames of its own and lower classes while there is a place; a full queue, a muted station, and in
CONFIG every class but ANSWER, refuse it. -/
def Obligations.TransmitQueueTakesOffers : Prop :=
  ∀ (s : State) (f : TxFrame),
    let fresh : TxEntry := { frame := f, sending := false, doomed := false }
    let replaces := (f.cls = 0 ∨ f.cls = 5) ∧ s.unsent f.cls ≠ []
    ((s.bus.muted = true ∨ s.awake = false ∨ s.startup.phase = .config ∧ f.cls ≠ 4) → s.offer f = none) ∧
    (s.bus.muted = false → (s.startup.phase = .run ∨ s.startup.phase = .config ∧ f.cls = 4) →
      (replaces → ∃ l r : List TxEntry, ∃ e : TxEntry, s.bus.txq = l ++ e :: r ∧ e.sending = false ∧
        e.frame.cls = f.cls ∧ (∀ x ∈ l, x.sending = false → x.frame.cls ≠ f.cls) ∧
        s.offer f = some { s with bus := { s.bus with txq := l ++ fresh :: r } }) ∧
      (¬ replaces → s.bus.txq.length < 8 → ∃ l r : List TxEntry, s.bus.txq = l ++ r ∧
        (∀ x ∈ l, x.frame.cls ≤ f.cls) ∧ (∀ x, r.head? = some x → f.cls < x.frame.cls) ∧
        s.offer f = some { s with bus := { s.bus with txq := l ++ fresh :: r } }) ∧
      (¬ replaces → 8 ≤ s.bus.txq.length → s.offer f = none))

/-- R102, R134, R144, R157, R159, R169 to R172, R174, R175, R177, R179: the line falls idle; an attempt begins with the first
queued frame, a REPORT with the sequence number as it stands; a frame is dropped where it fails one of the checks 1 to 5 and 7
to 9 of R172, which `State.Intact` writes out, passed over where it fails the sixth alone, its destination, and otherwise
handed to the block that R179 names for its class and kind; where a LANE frame carries its lane is the model's choice (log
entry 8). Outside the inert state, for which see `CommandsAnswerNext` (log entry 43), frames that fail a check, or are for
another node or for no block, change the line alone, and a dropped one the receive error count; a lost attempt leaves its frame queued, as
`AttemptEnded` says, and the bit-error run as it was. DRV_EN is asserted while an attempt lasts, and TXD then presents the
frame's bits from the dominant start bit and the header on; where the attempt has taken another node's start bit as its own,
the station drives none and sends from the class field on. Otherwise DRV_EN is deasserted and TXD recessive. The recessive
bits counted between frames make 12 on an idle line. -/
def Obligations.AttemptsAndReceptions : Prop :=
  ∀ (s : State) (f : RxFrame),
    (s.startup.phase ≠ .resetting → s.bus.line = .gap →
      exec .lineIdle s = .next { s with bus := { s.bus with line := .idle, recessive := 12, joined := false } }) ∧
    (∀ k, s.drvEn k = decide (s.bus.line = .attempt ∧ (k = 0 → s.bus.joined = false))) ∧
    (∀ k, s.drvEn k = false → s.txd k = some true) ∧
    (∀ e, s.bus.line = .attempt → s.bus.txq.find? (·.sending) = some e →
      (s.bus.joined = false → s.txd 0 = some false) ∧
      ∀ k bit, (e.frame.header s.startup.node).bits[k]? = some bit → s.txd (k + 1) = some bit) ∧
    (∀ e q joined, s.awake = true → s.bus.muted = false → s.bus.line = .idle → s.bus.txq = e :: q →
      exec (.attemptStart joined) s = .next { s with
        bus := { s.bus with
          line := .attempt
          recessive := 0
          joined := joined
          txq := { e with
            frame := match e.frame with
              | .report r => .report { r with seq := s.share.seq }
              | other => other
            sending := true } :: q }
        bids := match e.frame with
          | .bid b => s.bids.map fun x => if x.isFor b.source b.request then { x with sending := true } else x
          | _ => s.bids }) ∧
    (let own := s.startup.node
     let route := f.route own
     (¬ s.Intact f → route = .dropped) ∧
     (s.Intact f → f.dst ≠ 0#4 → f.dst ≠ own → route = .passedOver) ∧
     (s.Intact f → (f.dst = 0#4 ∨ f.dst = own) →
       ((f.cls = 0#3 ∨ f.cls = 4#3 ∨ f.cls = 6#3 ∨ f.cls = 7#3) → route = .ignored) ∧
       (f.cls = 1#3 → route = .bid) ∧ (f.cls = 5#3 → route = .report) ∧
       (f.cls = 2#3 → route = if f.kind = 1#4 then .laneClaim else .laneFree) ∧
       (f.cls = 3#3 → ∃ k, route = .request k ∧ [RequestKind.openBay, .openAll, .dispense, .returnTablet, .withdraw, .provision,
         .jobResult, .tabletInfo, .connectorCheck, .clearFault, .query, .fetchLog, .restart, .settings,
         .settingsClose][f.kind.toNat - 1]? = some k))) ∧
    (s.awake = true → (s.bus.line = .idle ∨ s.bus.line = .receiving) →
      (f.route s.startup.node = .dropped → exec (.frameDropped f) s = .next { s with
        bus := { s.bus with line := .gap, recessive := 0, joined := false, rxErrors := min 255 (s.bus.rxErrors + 1) } }) ∧
      (f.route s.startup.node = .passedOver → exec (.framePassedOver f) s = .next
        { s with bus := { s.bus with line := .gap, recessive := 0, joined := false } }) ∧
      (f.route s.startup.node = .ignored → exec (.frameIgnored f) s = .next
        { s with bus := { s.bus with line := .gap, recessive := 0, joined := false } })) ∧
    (s.bus.line = .attempt → ∃ t : State, exec .arbitrationLost s = .next t ∧
      t.bus.line = .receiving ∧ (∀ k, t.drvEn k = false) ∧ t.bus.errorRun = s.bus.errorRun ∧ t.bus.muted = s.bus.muted ∧
      t.share = s.share ∧ t.custody = s.custody ∧ s.AttemptEnded t)

/-- R97, R144, R148, R157, R159, R166, R174, R175, R177, R178: a bit error ends the attempt and raises the bit-error run; the
frame of the attempt stays queued, as `AttemptEnded` says; the third in succession mutes the station: transmit queue, bid
list and reservations empty, every live job ended, the applied ceiling clamped. The clock edge of the bit is the command's
(log entry 6). -/
def Obligations.BitErrorsMute : Prop :=
  ∀ (s : State) (edge : Nat), s.bus.line = .attempt → s.pacing.prescaler ≤ edge → s.bus.errorRun ≤ 2 →
    ∃ t : State, exec (.bitError edge) s = .next t ∧ t.pacing = { s.pacing with prescaler := edge } ∧
    t.bus.line = .gap ∧ t.bus.recessive = 0 ∧ (∀ k, t.drvEn k = false) ∧ t.bus.errorRun = s.bus.errorRun + 1 ∧
    t.custody = s.custody ∧ t.startup = s.startup ∧ t.handler = s.handler ∧ t.bus.reqq = s.bus.reqq ∧
    (s.bus.errorRun < 2 → t.bus.muted = s.bus.muted ∧ t.share = s.share ∧ s.AttemptEnded t) ∧
    (s.bus.errorRun = 2 → t.bus.muted = true ∧ t.bus.txq = [] ∧ t.bids = [] ∧
      t.share.applied = min s.share.applied (min (orphanOf s.force) s.share.xt) ∧ t.share.xt = s.share.xt ∧
      ∀ b, (t.bay b).reservation = none ∧ (t.bay b).lock = (s.bay b).lock ∧
        ∀ j, (s.bay b).slot = some j → (t.bay b).slot =
          if j.state = .ended then some j
          else some { j with state := .ended, outcome := some .aborted, lane := none, unread := true })

/-- R95, R103, R146, R157 to R159, R175: the completion of an own frame: the frame leaves the queue and the bit-error run
falls to 0; a REPORT gives Xt, the sequence number and its pending raise, with a distribution at the completion's clock edge
(log entry 6), its demands, awake and maintain power among them, those of the record as it stands, the model's choice (log
entry 42); an applied ceiling above the new Xt is lowered to
it, which is the model's reading of R95 (log entry 30); a BID a grant, or GRANT_VOID where it is void; a LANE CLAIM the lane, which settles for 5 ms, or is given up at once, with its LANE FREE queued where there
is room, where a withdrawal waited. -/
def Obligations.CompletionsTellOwners : Prop :=
  ∀ (s : State) (e : TxEntry) (edge : Nat), s.bus.line = .attempt → s.bus.txq.find? (·.sending) = some e →
    s.pacing.prescaler ≤ edge →
    ∃ t : State, exec (.transmissionCompleted edge) s = .next t ∧ t.pacing = { s.pacing with prescaler := edge } ∧
      t.bus.line = .gap ∧ t.bus.recessive = 0 ∧ (∀ k, t.drvEn k = false) ∧ t.bus.errorRun = 0 ∧
      t.startup = s.startup ∧ t.custody = s.custody ∧ t.handler = s.handler ∧ (∀ x ∈ t.bus.txq, x.sending = false) ∧
      (∀ r, e.frame = .report r → t.share = { s.share with
        xt := r.ceiling, sentSeq := r.seq, seq := (r.seq + 1) % 16
        applied := min (r.raise.getD s.share.applied) r.ceiling }) ∧
      (∀ r, e.frame = .report r → (r.raise ≠ none ∨ r.ceiling < s.share.applied) →
        ∃ u : State, t = u.distribute.laneProgress ∧ u.bays = s.bays ∧ u.pacing = t.pacing ∧ u.share = t.share) ∧
      ((∀ r, e.frame = .report r → r.raise = none ∧ s.share.applied ≤ r.ceiling) → e.frame.cls ≠ 1 → e.frame.cls ≠ 2 →
        { s with
          pacing := { s.pacing with prescaler := edge }
          bus := { s.bus with line := .gap, recessive := 0, joined := false, errorRun := 0, txq := s.bus.txq.filter (!·.sending) }
          share := t.share }.UnitsOnly t) ∧
      ((∀ r, e.frame ≠ .report r) → t.share = s.share) ∧
      (∀ b x, e.frame = .bid b → s.bidFor b.source b.request = some x →
        (x.void = false → (s.bay x.bay).lock.state = .secured →
          (s.bay x.bay).reservation = some { source := x.source, request := x.request } →
          t.bids = s.bids.filter (fun y => !y.isFor x.source x.request) ∧
          (t.bay x.bay).lock = { (s.bay x.bay).lock with
            state := .granted, window := some (grantWindowOf s.force)
            grant := some { reason := if x.kind = .dispense then .dispense else .returnTablet,
                            requester := x.source, request := x.request } } ∧
          (t.bay x.bay).out.latch = true ∧ (t.bay x.bay).reservation = none) ∧
        (x.void = true → t.bids = s.bids.filter (fun y => !y.isFor x.source x.request) ∧ (∀ c, (t.bay c).lock = (s.bay c).lock) ∧
          (s.awake = true → s.bus.muted = false → s.bus.txq.length < 8 →
            t.Queued (.answer x.source (.grantVoid x.request x.bay))))) ∧
      ∀ x b, e.frame = .claim x b →
        (e.doomed = false → t.lanes.claim = some ⟨b, .settling x 5⟩ ∧ ∃ h, t.lanes.table[x] = some h ∧
          h.node = s.startup.node ∧ h.bay = some (b.val + 1) ∧
          (s.lanes.table[x].all (·.node != s.startup.node) = true → h.since = s.pacing.uptime)) ∧
        (e.doomed = true → s.LaneGivenUp t x 1 ∧
          (s.running = true → s.bus.muted = false → s.bus.txq.length < 8 → t.Queued (.free x)))

/-! ### The cart bus: receiving -/

/-- R179 to R181, R183: an accepted REQUEST other than DISPENSE and RETURN joins the request queue, from which an idle
handler takes the oldest at once, and the twelfth place filled, is dropped with an ANSWER FULL; the hold state, and the FLOW
HOLD offered where holding begins and at every fourth request received while it lasts. The
request number of a payload shorter than two bytes is a free value (log entry 4). -/
def Obligations.RequestsAreQueued : Prop :=
  ∀ (s : State) (f : RxFrame) (k : RequestKind), s.awake = true → (s.bus.line = .idle ∨ s.bus.line = .receiving) →
    f.route s.startup.node = .request k → k ≠ .dispense → k ≠ .returnTablet →
    let q : Request :=
      { src := f.src, dst := f.dst, kind := k, key := f.key, payload := f.payload, number := s.requestNumber f.payload }
    let n := s.bus.reqq.length + 1
    (2 ≤ f.payload.length → q.number = BitVec.ofNat 16 (wordAt f.payload 0)) ∧
    ∃ t : State, exec (.requestAccepted f) s = .next t ∧
      t = { s with
        bus := t.bus, handler := t.handler, freeCount := s.freeCount + (if f.payload.length < 2 then 1 else 0) } ∧
      t.bus.line = .gap ∧ t.bus.rxErrors = s.bus.rxErrors ∧ t.bus.errorRun = s.bus.errorRun ∧ t.bus.muted = s.bus.muted ∧
      (n ≤ 12 → (s.handler.interval ≠ none ∨ s.handler.taken ≠ none) →
        t.bus.reqq = s.bus.reqq ++ [q] ∧ t.handler = s.handler ∧
        (s.bus.holding = false → t.bus.holding = decide (9 ≤ n) ∧
          (9 ≤ n → t.bus.holdCount = 0 ∧
            (s.running = true → s.bus.muted = false → (s.bus.txq.length < 8 ∨ s.unsent 0 ≠ []) → t.Queued (.hold n)))) ∧
        (s.bus.holding = true → t.bus.holding = true ∧
          t.bus.holdCount = (if s.bus.holdCount = 3 then 0 else s.bus.holdCount + 1) ∧
          (s.bus.holdCount = 3 → s.running = true → s.bus.muted = false →
            (s.bus.txq.length < 8 ∨ s.unsent 0 ≠ []) → t.Queued (.hold n)))) ∧
      (n ≤ 12 → s.handler.interval = none → s.handler.taken = none →
        t.bus.reqq = (s.bus.reqq ++ [q]).drop 1 ∧ t.handler.taken = (s.bus.reqq ++ [q]).head? ∧
        t.handler.interval = some 1) ∧
      (12 < n → t.bus.reqq = s.bus.reqq ∧ t.handler = s.handler ∧
        (s.HasRoom 1 → t.Queued (.answer f.src (.full k q.number))) ∧
        (s.bus.holding = true → t.bus.holdCount = (if s.bus.holdCount = 3 then 0 else s.bus.holdCount + 1) ∧
          (s.bus.holdCount = 3 → s.running = true → s.bus.muted = false →
            (s.bus.txq.length + 2 ≤ 8 ∨ s.unsent 0 ≠ []) → t.Queued (.hold s.bus.reqq.length))))

/-- R181, R183, R187: the handling interval expires: the oldest request is taken, and a holding station with 3 or fewer
requests left offers FLOW RESUME; with an empty queue the handler falls idle. The summary timer expires: a SUMMARY of
the values as they stand, addressed to all nodes, is offered. -/
def Obligations.HandlerTimersExpire : Prop :=
  ∀ s : State,
    (s.handler.interval = some 0 → s.handler.taken = none →
      (s.bus.reqq = [] → exec .handlingIntervalExpiry s =
        .next { s with handler := { s.handler with interval := none } }) ∧
      ∀ q rest, s.bus.reqq = q :: rest → ∃ t : State, exec .handlingIntervalExpiry s = .next t ∧
        t = { s with bus := { s.bus with reqq := rest, txq := t.bus.txq, holding := t.bus.holding }, handler := t.handler } ∧
        t.handler = { s.handler with interval := some 1, taken := some q } ∧
        (s.bus.holding = false ∨ 3 < rest.length → t.bus.holding = s.bus.holding ∧ t.bus.txq = s.bus.txq) ∧
        (s.bus.holding = true → rest.length ≤ 3 → s.running = true → s.bus.muted = false → s.bus.txq.length < 8 →
          t.bus.holding = false ∧ t.Queued (.resume rest.length))) ∧
    (s.startup.phase = .run → s.handler.summary = some 0 →
      let now : Summary :=
        { present := countBays fun b => (s.bay b).presence.value
          charging := countBays fun b : Bay => decide ((s.bay b).charge.state = .softstart ∨ (s.bay b).charge.state = .bulk ∨
            (s.bay b).charge.state = .taper)
          maintain := countBays fun b : Bay => decide ((s.bay b).charge.state = .maintain)
          applied := s.share.applied
          attention := s.attentionCode
          logCount := s.custody.log.length
          overflow := s.custody.overflow
          rxErrors := s.bus.rxErrors
          requests := s.bus.reqq.length
          defaulted := s.startup.defaulted }
      exec .summaryTimerExpiry s =
        .next ({ s with handler := { s.handler with summary := some 2000 } }.offerOrDrop (.summary now)) ∧
      (TxFrame.summary now).header s.startup.node = { cls := 6#3, key := 0#8, src := s.startup.node, dst := 0#4, kind := 1#4 })

/-! ### Taken requests: bays, reads, restart and settings -/

/-- R14, R58, R67, R77, R78: TABLET_INFO, CONNECTOR_CHECK and CLEAR_FAULT that the authority table admits: their checks in
order and what they write. -/
def Obligations.RequestsOnBays : Prop :=
  ∀ (q : Request) (s : State) (k : RequestKind) (c : Instr), s.Admits q k →
    (k, c) ∈ [(.tabletInfo, .tabletInfo), (.connectorCheck, .connectorCheck), (.clearFault, .clearFault)] →
    let u := s.afterTaking q
    let refused := fun (why : Reason) => exec c s = .next (u.offerOrDrop (.answer q.src (.refused k q.number why)))
    let accepts := fun (v : State) => ∃ t : State,
      exec c s = .next (t.offerOrDrop (.answer q.src (.accepted k q.number))) ∧ v.UnitsOnly t
    ((byteAt q.payload 2 = 0 ∨ 8 < byteAt q.payload 2) → refused .badArg) ∧
    ∀ b : Bay, byteAt q.payload 2 = b.val + 1 →
      let r := s.bay b
      (r.populated = false → refused .noBay) ∧
      (k = .tabletInfo → r.presence.value = false → refused .noBay) ∧
      (k = .tabletInfo → r.populated = true → r.presence.value = true →
        let tag := tagAt q.payload 3
        let level := min 100 (byteAt q.payload 7) * 10
        ∃ v : State, accepts v ∧ v = { u with bays := v.bays } ∧
          v.bay b = { r with charge := { r.charge with
            tag := some tag, departed := none, acc := 0
            level := some (if r.charge.state = .maintain then level else min 999 level) } } ∧
          ∀ d, d ≠ b → v.bay d = { s.bay d with charge := { (s.bay d).charge with
            tag := if (s.bay d).charge.tag = some tag then none else (s.bay d).charge.tag
            departed := if (s.bay d).charge.departed = some tag then none else (s.bay d).charge.departed } }) ∧
      (k = .connectorCheck → r.populated = true →
        exec c s = .next ((u.setBay b { r with prot := { r.prot with mark := true } }).offerOrDrop
          (.answer q.src (.accepted k q.number)))) ∧
      (k = .clearFault → r.populated = true →
        let service := s.authorized q.src .service
        let enough := if r.charge.state = .faulted ∧ r.prot.latched = false then s.authorized q.src .teacher else service
        let p : Protection := { r.prot with
          latched := false, retryCount := 0, score := if service then 0 else r.prot.score }
        (enough = false → refused .notAuthorized) ∧
        (enough = true → (r.charge.state = .faulted ∨ r.charge.state = .quarantined) → r.measure = none →
          accepts (u.setBay b (if r.presence.value then
            { r with
              charge := { r.charge.stageOff .detect with time := 0, exceeded := false, detectTimer := some 500 }
              out := r.out.stageOff
              prot := { p.unarmed with mark := r.prot.mark || checkAtDockingOf s.force } }
            else { r with charge := r.charge.stageOff .empty, out := r.out.stageOff, prot := p.unarmed }))) ∧
        (enough = true → r.charge.state ≠ .faulted → r.charge.state ≠ .quarantined →
          accepts (u.setBay b { r with prot := p })))

/-- R131, R167, R168, R182, R183, R185, R186: a QUERY in CONFIG, or in RUN from a node of the authority table: its STATUS
frames, offered one by one, as many as there is room for, with every field R185 and R168 list as it stands; the unread mark goes where both parts of a QUERY JOB were
taken, and only there: without room for both the slot stays as it was; a QUERY of a bay outside 1..8 or of an unknown
target is refused. The model's choices: an unknown target is answered at QUERY_BAY (log entry 3), each STATUS frame carries
the whole report (log entry 7), and in CONFIG the image stands in that of QUERY SHELF (log entry 36). A FETCH_LOG sends the oldest record and removes it, keeps it where there is no room for both frames,
and of an empty log sends LOG EMPTY. -/
def Obligations.QueriesAndFetchLog : Prop :=
  (∀ (q : Request) (s : State), s.handler.taken = some q → q.kind = .query → q.lengthFits = true →
    (s.startup.phase = .config ∨ s.startup.phase = .run ∧ s.known q.src = true) →
    let u := s.afterTaking q
    let part := fun (target : QueryTarget) (i n : Nat) (r : Report) =>
      TxFrame.answer q.src (.status q.number target i n r)
    let busOnly := fun (t : State) => t = { u with bus := { u.bus with txq := t.bus.txq } } ∧ ∀ e ∈ u.bus.txq, e ∈ t.bus.txq
    let currentOf := fun (code : BitVec 12) => 2 * (code.toNat : Int) - 4096
    let temperatureOf := fun (code : BitVec 12) => if code = 4095#12 then 205 else (code.toNat : Int) / 16 - 50
    let bay := fun (b : Bay) =>
      let r := s.bay b
      Report.bay
        { bay := b.val + 1, populated := r.populated, profile := r.profile.val + 1, presence := r.presence.value,
          doorOpen := r.door.value, charge := r.charge.state, level := r.charge.level, limit := r.charge.limit,
          keep := r.charge.keep, urgent := r.charge.urgent, normal := r.charge.normal, filtered := r.filtered,
          chargeTime := r.charge.time, current := s.scanner.results[currentChannel b].map currentOf,
          voltage := s.scanner.results[voltageChannel b].map (5 * ·.toNat), tag := r.charge.tag,
          departed := r.charge.departed, provisioned := r.charge.provisioned, lock := r.lock.state, grant := r.lock.grant,
          windowLeft := r.lock.window, baseline := r.lock.baseline, job := r.slot.map (·.state),
          reservation := r.reservation, score := r.prot.score, retryCount := r.prot.retryCount, latched := r.prot.latched,
          lastFault := r.prot.lastFault, mark := r.prot.mark, result := r.prot.result }
    let job := fun (b : Bay) => Report.job (b.val + 1) ((s.bay b).slot.map fun j =>
      { id := j.id, kind := j.kind, requester := j.requester, timeLimit := j.timeLimit, elapsed := j.elapsed / 1000,
        state := j.state, lane := j.lane, suspensions := j.suspensions, outcome := j.outcome, unread := j.unread })
    let shelf := Report.shelf
      { node := s.startup.node, feedClass := s.startup.feedClass, phase := s.startup.phase, uptime := s.pacing.uptime,
        defaulted := s.startup.defaulted, rail := s.scanner.results[16].map (10 * ·.toNat),
        tempA := s.scanner.results[17].map temperatureOf, tempB := s.scanner.results[18].map temperatureOf,
        budget := s.share.budget, applied := s.share.applied, xt := s.share.xt, thermal := s.share.thermal,
        droopFactor := s.share.droopFactor, droop := s.share.droop, shareSelf := s.share.shareSelf,
        policies := [.short, .overload, .overvolt, .backfeed, .noTaper, .connector].map (policyOf s.force),
        bids := s.bids.length, lanes := s.lanes.table, claim := s.lanes.claim.map (·.phase), rxErrors := s.bus.rxErrors,
        errorRun := s.bus.errorRun, requests := s.bus.reqq.length, transmits := s.bus.txq.length, holding := s.bus.holding,
        logCount := s.custody.log.length, overflow := s.custody.overflow, attention := s.attentionCode,
        image := if s.startup.phase = .config then some s.startup.image else none }
    (q.target = none → exec .queryBay s = .next (u.offerOrDrop (.answer q.src (.refused .query q.number .badArg)))) ∧
    (q.target = some .bay → ∀ b : Bay, byteAt q.payload 3 = b.val + 1 → ∃ t : State, exec .queryBay s = .next t ∧ busOnly t ∧
      ∀ i, 1 ≤ i → i ≤ 6 → s.HasRoom i → t.Queued (part .bay i 6 (bay b))) ∧
    (q.target = some .job → ∀ b : Bay, byteAt q.payload 3 = b.val + 1 → ∃ t : State, exec .queryJob s = .next t ∧
      (∀ i, i = 1 ∨ i = 2 → s.HasRoom i → t.Queued (part .job i 2 (job b))) ∧
      (s.HasRoom 2 →
        busOnly (t.setBay b (s.bay b)) ∧
        t.bay b = { s.bay b with slot := (s.bay b).slot.map fun j => { j with unread := false } }) ∧
      (¬ s.HasRoom 2 → busOnly t) ∧ (s.bus.muted = true → t = u)) ∧
    ((q.target = some .bay ∨ q.target = some .job) → (byteAt q.payload 3 = 0 ∨ 8 < byteAt q.payload 3) → ∀ c : Instr,
      (q.target = some .bay ∧ c = .queryBay ∨ q.target = some .job ∧ c = .queryJob) →
      exec c s = .next (u.offerOrDrop (.answer q.src (.refused .query q.number .badArg)))) ∧
    (q.target = some .peers → ∃ t : State, exec .queryPeers s = .next t ∧ busOnly t ∧
      let heard := allPeers.filter fun i => (s.peer i).state ≠ .absent
      (heard = [] → s.HasRoom 1 → t.Queued (part .peers 1 1 (.peer none))) ∧
      ∀ k i, heard[k]? = some i → s.HasRoom (k + 1) → t.Queued (part .peers (k + 1) heard.length (.peer (some
        { node := i.val + 1, state := (s.peer i).state, ceiling := (s.peer i).ceiling, missed := (s.peer i).missed })))) ∧
    (q.target = some .shelf → ∃ t : State, exec .queryShelf s = .next t ∧ busOnly t ∧
      ∀ i, 1 ≤ i → i ≤ 8 → s.HasRoom i → t.Queued (part .shelf i 8 shelf))) ∧
  ∀ (q : Request) (s : State), s.Admits q .fetchLog →
    let u := s.afterTaking q
    let unsent := fun (f : TxFrame) => ({ frame := f, sending := false, doomed := false } : TxEntry)
    (s.custody.log = [] → s.HasRoom 1 → exec .fetchLog s = .next { u with bus := { u.bus with
      txq := u.bus.txq ++ [unsent (.logEmpty q.src s.custody.nextNumber s.custody.overflow)] } }) ∧
    ∀ r rest, s.custody.log = r :: rest →
      (s.HasRoom 2 → exec .fetchLog s = .next { u with
        bus := { u.bus with txq := u.bus.txq ++ [unsent (.logPart1 q.src r), unsent (.logPart2 q.src r)] }
        custody := { u.custody with log := rest } }) ∧
      (¬ s.HasRoom 2 → exec .fetchLog s = .next u)

/-- R4, R31, R34, R62, R67, R76, R119, R148, R150, R154, R155, R159, R166, R195: a RESTART: every bay's record, in DETECT as by a
DETECT entry, with the detectors cleared; the grants ended with a LAPSED record, every bid's reservation released, every live
job ended, with its lane given up, and a LANE FREE queued where there is room for four frames, or its claim abandoned; and all
that the station keeps. That the blocks act in the order locks, bays, bids, jobs, and before the answer, is the model's choice
and reading (log entries 11 and 17). -/
def Obligations.RestartKeepsCustody : Prop :=
  ∀ (q : Request) (s : State), s.Admits q .restart →
    ∃ t : State, exec .restart s = .next (t.offerOrDrop (.answer q.src (.accepted .restart q.number))) ∧
      t.startup = s.startup ∧ t.pacing = s.pacing ∧ t.scanner = s.scanner ∧ t.share = s.share ∧
      t.handler = { s.handler with taken := none } ∧ t.bus.reqq = s.bus.reqq ∧ t.bus.muted = s.bus.muted ∧
      t.custody.allSource = none ∧ t.custody.allCount = 0 ∧
      ((∀ b, (s.bay b).lock.state ≠ .granted) → t.custody.log = s.custody.log) ∧
      (∀ b, (s.bay b).lock.state = .granted → ∃ r ∈ t.custody.log, r.bay = b.val + 1 ∧ r.kind = .lapsed ∧
        r.uptime = s.pacing.uptime ∧ r.requester = (s.bay b).lock.grant.map (·.requester) ∧
        r.request = (s.bay b).lock.grant.map (·.request) ∧ r.tag = (s.bay b).charge.tag ∧
        r.level = (s.bay b).charge.level) ∧
      (∀ x ∈ t.bids, x.sending = true ∧ x.void = true ∧ x.withdrawal = true) ∧
      t.lanes.arrivals = s.lanes.arrivals ∧ (∀ x, s.holds x = false → t.lanes.table[x] = s.lanes.table[x]) ∧
      (∀ b ph, s.lanes.claim = some ⟨b, ph⟩ → (s.bay b).jobState = some .claiming → t.lanes.claim = none) ∧
      ∀ b,
        let r := s.bay b
        let v := t.bay b
        let st : ChargeState :=
          if r.charge.state = .disabled ∨ r.charge.state = .faulted ∨ r.charge.state = .quarantined then r.charge.state
          else if r.presence.value then .detect else .empty
        v = { r with
          charge := { r.charge.stageOff st with
            level := none
            acc := 0
            time := 0
            exceeded := false
            detectTimer := if st = .detect then some 500 else none
            provisioned := r.charge.provisioned && !(r.slot.any fun j => j.state != .ended && j.kind != .identify) }
          out := { r.out.stageOff with
            latch := if r.lock.state = .granted then false else r.out.latch, crosspoint := v.out.crosspoint }
          lock := if r.lock.state = .granted then Lock.closed else r.lock
          prot := { r.prot.unarmed with
            retryCount := 0, retryTimer := none, mark := decide (st = .detect) && checkAtDockingOf s.force }
          slot := r.slot.map fun j => if j.state = .ended then j
            else { j with state := .ended, outcome := some .aborted, lane := none, unread := true }
          reservation := none
          measure := none } ∧
        ∀ j, r.slot = some j → j.state ≠ .ended → s.LanesLeft t b j 4

/-- R2, R7, R191 to R193: SETTINGS in CONFIG: the window, the checks, the value clamped and written, and in CONFIG
read back by a QUERY SHELF (that this target carries the items is the model's choice, log entry 36); SETTINGS_CLOSE: its
length, and the signature, which lets the part enter RUN, every bay's record as `BayRecord.EnteredRun` gives it; both refused
CLOSED in RUN. -/
def Obligations.SettingsSealImage : Prop :=
  (∀ (q : Request) (s : State), s.handler.taken = some q → q.kind = .settings → s.startup.phase = .config →
    let startup := if s.startup.close = none then { s.startup with firstFrame := none, close := some 10000 } else s.startup
    let u := { s with handler := { s.handler with taken := none }, startup := startup }
    let item := byteAt q.payload 2
    ((q.payload.length ≠ 5 ∨ item = 0 ∨ 85 < item) →
      exec .settings s = .next (u.offerOrDrop (.answer q.src (.refused .settings q.number .badArg)))) ∧
    (q.payload.length = 5 → 1 ≤ item → item ≤ 85 → ∃ (img : Image) (t : State),
      exec .settings s = .next (t.offerOrDrop (.answer q.src (.accepted .settings q.number))) ∧
      t = { u with startup := { startup with image := img } } ∧ t.shelfReport.image = some img ∧
      (∀ n, 1 ≤ n → n ≤ 85 → n ≠ item → itemOf img n = itemOf s.startup.image n) ∧
      itemOf img item = clampItem item (wordAt q.payload 3))) ∧
  (∀ (q : Request) (s : State), s.handler.taken = some q → q.kind = .settingsClose → s.startup.phase = .config →
    q.payload.length ≠ 4 → exec .settingsClose s = .next ({ s with handler := { s.handler with taken := none } }.offerOrDrop
      (.answer q.src (.refused .settingsClose q.number .badArg)))) ∧
  (∀ (q : Request) (s : State), s.handler.taken = some q → q.kind = .settingsClose → s.startup.phase = .config →
    q.payload.length = 4 →
    (wordAt q.payload 2 = (signatureOf s.startup.image).toNat → ∃ t : State,
      exec .settingsClose s = .next (t.offerOrDrop (.answer q.src (.accepted .settingsClose q.number))) ∧
      s.EnteredRun t false ∧ t.handler = { s.handler with taken := none, summary := some 2000 }) ∧
    (wordAt q.payload 2 ≠ (signatureOf s.startup.image).toNat → exec .settingsClose s =
      .next ({ s with handler := { s.handler with taken := none } }.offerOrDrop
        (.answer q.src (.refused .settingsClose q.number .signature))))) ∧
  (∀ (q : Request) (s : State) (k : RequestKind) (c : Instr), s.handler.taken = some q → q.kind = k →
    s.startup.phase = .run → (k = .settings ∧ c = .settings ∨ k = .settingsClose ∧ c = .settingsClose) →
    exec c s = .next ((s.afterTaking q).offerOrDrop (.answer q.src (.refused k q.number .closed)))) ∧
  (∀ n v : Nat, n = 17 ∨ n = 26 ∨ n = 35 ∨ n = 44 →
    clampItem n v = if v ≤ 7000 then 5000 else if v ≤ 10500 then 9000 else if v ≤ 13500 then 12000 else 15000) ∧
  ∀ v : Nat,
    (∀ n, 1 ≤ n → n ≤ 8 → clampItem n v = min 1 v) ∧
    (∀ n, 9 ≤ n → n ≤ 16 → clampItem n v = max 1 (min 4 v)) ∧
    (∀ p : Fin 4, clampItem (18 + 9 * p) v = max 5 (min 45 v) ∧ clampItem (19 + 9 * p) v = min 10 v ∧
      clampItem (20 + 9 * p) v = min 20 v ∧ clampItem (21 + 9 * p) v = max 100 (min 1500 v) ∧
      clampItem (22 + 9 * p) v = max 50 (min 100 v) ∧ clampItem (23 + 9 * p) v = max 50 (min 500 v) ∧
      clampItem (24 + 9 * p) v = max 30 (min 600 v) ∧ clampItem (25 + 9 * p) v = min 100 v) ∧
    (List.range 24).map (fun i => clampItem (53 + i) v) =
      [max 5 (min 50 v), min 100 v, max 5 (min 80 v), max 50 (min 400 v), max 1 (min 60 v), max 2 (min 15 v),
       max 50 (min 1000 v), min 1 v, min 3 v, min 3 v, min 3 v, min 3 v, min 3 v, min 3 v, max 100 (min 1000 v),
       max 300 (min 5000 v), max 1 (min 60 v), min 200 v, min 200 v, max 4 (min 100 v), max 30 (min 90 v),
       max 31 (min 100 v), max 5 (min 60 v), max 10 (min 600 v)] ∧
    (∀ n, 77 ≤ n → n ≤ 80 → clampItem n v = min 15 v) ∧ (∀ n, 81 ≤ n → n ≤ 84 → clampItem n v = min 3 v) ∧
    clampItem 85 v = max 50 (min 1000 v)

/-! ### Encodings of the frames the part sends -/

/-- R170, R171, R173, R179: every REPORT, BID, LANE and LOG frame the part sends stands on the line, passes another station's
checks and is handed to the block it is for, or to none; every field that R173 gives its payload lies in its bits, at every
value its place admits, and the blocks that hear it read those they use; every frame carries the class, key, destination and kind that R171 gives it. That the lane stands in
the upper half of a LANE payload byte is the model's choice (log entry 8). -/
def Obligations.SentFramesReadBack : Prop :=
  (∀ own other : Node, own ≠ 0#4 → other ≠ own →
    let fields := fun (f : RxFrame) (places : List (Nat × Nat)) =>
      places.map fun h => bytesNat f.payload / 2 ^ h.2 % 2 ^ (h.1 + 1 - h.2)
    (∀ r : OwnReport, r.keep < 1024 → r.urgent < 1024 → r.urgentN ≤ 8 → r.normal < 1024 → r.normalN ≤ 8 →
      r.ceiling < 1024 → r.seq < 16 → ∃ f, TxFrame.onLine own (.report r) = some f ∧
      f.route other = .report ∧ f.src = own ∧ f.dst = 0#4 ∧ f.cls = 5#3 ∧ f.len = 8#4 ∧
      fields f [(63, 54), (53, 44), (43, 40), (39, 30), (29, 26), (25, 16), (15, 15), (14, 14), (13, 13), (12, 12), (11, 8),
          (7, 7), (6, 5), (4, 0)] =
        [r.keep, r.urgent, r.urgentN, r.normal, r.normalN, r.ceiling, r.lanes[3].toNat, r.lanes[2].toNat, r.lanes[1].toNat,
          r.lanes[0].toNat, r.seq, r.droop.toNat, r.feedClass.toNat, 0] ∧
      readReport f.payload =
        { keep := r.keep, urgent := r.urgent, urgentN := r.urgentN, normal := r.normal, normalN := r.normalN,
          ceiling := r.ceiling, lanes := r.lanes, seq := r.seq, droop := r.droop, feedClass := r.feedClass }) ∧
    (∀ b : OwnBid, 1 ≤ b.score → b.score ≤ 255 → (∀ l, b.level = some l → l ≤ 1000) →
      ∃ f, TxFrame.onLine own (.bid b) = some f ∧
      f.route other = .bid ∧ f.src = own ∧ f.dst = 0#4 ∧ f.cls = 1#3 ∧ f.key.toNat = 255 - b.score ∧ f.len = 6#4 ∧
      f.kind.toNat = (if b.kind = .dispense then 1 else 2) ∧
      fields f [(47, 44), (43, 28), (27, 24), (23, 16), (15, 5), (4, 4), (3, 0)] =
        [b.source.toNat, b.request.toNat, b.bay.val + 1, b.score, b.level.getD 2047, b.tagMatch.toNat, 0] ∧
      readBid f.payload = { source := b.source, request := b.request }) ∧
    (∀ (x : Lane) (b : Bay), ∃ f, TxFrame.onLine own (.claim x b) = some f ∧
      f.route other = .laneClaim ∧ f.src = own ∧ f.key.toNat = x.val + 1 ∧ f.laneByteLane = x.val + 1 ∧
      f.laneByteBay = b.val + 1) ∧
    (∀ x : Lane, ∃ f, TxFrame.onLine own (.free x) = some f ∧
      f.route other = .laneFree ∧ f.src = own ∧ f.key.toNat = x.val + 1 ∧ f.laneByteLane = x.val + 1 ∧ f.laneByteBay = 0) ∧
    (∀ r : LogRecord, r.number < 65536 → r.uptime < 4294967296 → r.bay ≤ 8 → (∀ l, r.level = some l → l ≤ 1000) →
      let kinds : List RecordKind :=
        [.dispensed, .returned, .opened, .lapsed, .forced, .withdrawn, .refused, .openAtStart, .anomaly]
      ∃ f g k, TxFrame.onLine own (.logPart1 other r) = some f ∧ TxFrame.onLine own (.logPart2 other r) = some g ∧
        (∀ x, x = f ∨ x = g → x.route other = .ignored ∧ x.src = own ∧ x.dst = other ∧ x.cls = 7#3 ∧ x.len = 8#4) ∧
        kinds[k]? = some r.kind ∧
        fields f [(63, 48), (47, 16), (15, 12), (11, 8), (7, 4), (3, 0)] =
          [r.number, r.uptime, r.bay, k + 1, r.requester.elim 0 BitVec.toNat, 0] ∧
        fields g [(63, 48), (47, 16), (15, 5), (4, 4), (3, 3), (2, 0)] =
          [r.request.elim 0 BitVec.toNat, r.tag.elim 0 BitVec.toNat, r.level.getD 2047, r.request.isSome.toNat,
            r.tag.isSome.toNat, r.number % 8]) ∧
    ∀ n o : Nat, n < 65536 → o < 256 → ∃ f, TxFrame.onLine own (.logEmpty other n o) = some f ∧
      f.route other = .ignored ∧ f.src = own ∧ f.dst = other ∧ f.cls = 7#3 ∧ f.len = 3#4 ∧
      fields f [(23, 8), (7, 0)] = [n, o]) ∧
  ∀ (own dst : Node) (f : TxFrame) (x : RxFrame),
    (TxFrame.onLine own f = some x → x.header = f.header own ∧ x.lineBits.take 24 = false :: (f.header own).bits) ∧
    let is := fun (f : TxFrame) (cls : BitVec 3) (key : Byte) (dst : Node) (kind : BitVec 4) =>
      f.header own = { cls := cls, key := key, src := own, dst := dst, kind := kind }
    (∀ n, is (.hold n) 0 0 0 1 ∧ is (.resume n) 0 0 0 2) ∧
    (∀ k q r, is (.answer dst (.accepted k q)) 4 0 dst 1 ∧ is (.answer dst (.refused k q r)) 4 0 dst 2 ∧
      is (.answer dst (.full k q)) 4 0 dst 6) ∧
    (∀ q g i n r, is (.answer dst (.status q g i n r)) 4 0 dst 3) ∧
    (∀ id b y, is (.answer dst (.jobConnected id b y)) 4 0 dst 4) ∧ (∀ q b, is (.answer dst (.grantVoid q b)) 4 0 dst 5) ∧
    (∀ r, is (.report r) 5 0 0 1) ∧ (∀ m, is (.summary m) 6 0 0 1) ∧
    (∀ r, is (.logPart1 dst r) 7 0 dst 1 ∧ is (.logPart2 dst r) 7 0 dst 2) ∧ ∀ n o, is (.logEmpty dst n o) 7 0 dst 3

/-! ### Invariants that every step keeps -/

/-- R12, R107, R110: a bay's latch, grant, window, baseline, ajar timer and removal note always fit its lock state. -/
def Obligations.LocksFitKept : Prop := ∀ s t : State, s.LocksFit → step s = .next t → t.LocksFit

/-- R14, R33, R36, R40, R54, R57, R70, R71, R73: a bay's stage outputs always fit its charge state, its limits their
multiples and bounds, its level, fault score and retry count their ranges; no tag and no departed tag is held twice. -/
def Obligations.ChargeFitsKept : Prop := ∀ s t : State, s.ChargeFits → step s = .next t → t.ChargeFits

/-- R128, R134, R174, R176, R177, R180: the queues, the bid list and the release log always hold no more than their
capacities, the log consecutive numbers, the bid list one entry for each request, the transmit queue its order, one
attempt at most, and one unsent FLOW and REPORT at most. -/
def Obligations.CollectionsFitKept : Prop := ∀ s t : State, s.CollectionsFit → step s = .next t → t.CollectionsFit

/-- R51, R53, R95, R97, R178: the sum of the station's per-bay allotments never exceeds its applied ceiling, which never
exceeds the last transmitted one, nor, while the station is muted, the orphan allowance; both are 0 before RUN. That a
completion lowers an applied ceiling above the new Xt is the model's reading of R95 (log entry 30). -/
def Obligations.AllotmentsFitKept : Prop := ∀ s t : State, s.AllotmentsFit → step s = .next t → t.AllotmentsFit

/-- R155 to R157, R159, R163: crosspoints, busy-line drives, CONNECTED jobs, their awake power and the claim in flight always
fit together. -/
def Obligations.LanesFitKept : Prop := ∀ s t : State, s.LanesFit → step s = .next t → t.LanesFit

/-- R134, R140, R142, R166: bid reservations, bid-list entries, locks and live jobs always fit together. That a first tick
in RUN docks a tablet it finds is the model's choice (log entry 23). -/
def Obligations.ReservationsFitKept : Prop := ∀ s t : State, s.ReservationsFit → step s = .next t → t.ReservationsFit

/-- The six invariants hold at reset. -/
def Obligations.InvariantsHoldAtReset : Prop :=
  State.reset.LocksFit ∧ State.reset.ChargeFits ∧ State.reset.CollectionsFit ∧ State.reset.AllotmentsFit ∧
  State.reset.LanesFit ∧ State.reset.ReservationsFit
end

