-- ==== Sys2Proof/Laws/State.lean ====
section
/-! SUPPORT. What each small update of State leaves as it was, field by field, and what it writes: every lemma is
true by `rfl`, but for the reading of a bay after a bay was written. -/

namespace Sys2Proof.Machine

variable (s : State)

@[simp] theorem State.setBay_pacing (b : Bay) (r : BayRecord) : (s.setBay b r).pacing = s.pacing := rfl
@[simp] theorem State.setBay_scanner (b : Bay) (r : BayRecord) : (s.setBay b r).scanner = s.scanner := rfl
@[simp] theorem State.setBay_share (b : Bay) (r : BayRecord) : (s.setBay b r).share = s.share := rfl
@[simp] theorem State.setBay_custody (b : Bay) (r : BayRecord) : (s.setBay b r).custody = s.custody := rfl
@[simp] theorem State.setBay_bids (b : Bay) (r : BayRecord) : (s.setBay b r).bids = s.bids := rfl
@[simp] theorem State.setBay_lanes (b : Bay) (r : BayRecord) : (s.setBay b r).lanes = s.lanes := rfl
@[simp] theorem State.setBay_bus (b : Bay) (r : BayRecord) : (s.setBay b r).bus = s.bus := rfl
@[simp] theorem State.setBay_handler (b : Bay) (r : BayRecord) : (s.setBay b r).handler = s.handler := rfl
@[simp] theorem State.setBay_startup (b : Bay) (r : BayRecord) : (s.setBay b r).startup = s.startup := rfl
@[simp] theorem State.setBay_inputs (b : Bay) (r : BayRecord) : (s.setBay b r).inputs = s.inputs := rfl
@[simp] theorem State.setBay_freeCount (b : Bay) (r : BayRecord) : (s.setBay b r).freeCount = s.freeCount := rfl
@[simp] theorem State.setBay_pending (b : Bay) (r : BayRecord) : (s.setBay b r).pending = s.pending := rfl

@[simp] theorem State.modBay_pacing (b : Bay) (f : BayRecord → BayRecord) : (s.modBay b f).pacing = s.pacing := rfl
@[simp] theorem State.modBay_scanner (b : Bay) (f : BayRecord → BayRecord) : (s.modBay b f).scanner = s.scanner := rfl
@[simp] theorem State.modBay_share (b : Bay) (f : BayRecord → BayRecord) : (s.modBay b f).share = s.share := rfl
@[simp] theorem State.modBay_custody (b : Bay) (f : BayRecord → BayRecord) : (s.modBay b f).custody = s.custody := rfl
@[simp] theorem State.modBay_bids (b : Bay) (f : BayRecord → BayRecord) : (s.modBay b f).bids = s.bids := rfl
@[simp] theorem State.modBay_lanes (b : Bay) (f : BayRecord → BayRecord) : (s.modBay b f).lanes = s.lanes := rfl
@[simp] theorem State.modBay_bus (b : Bay) (f : BayRecord → BayRecord) : (s.modBay b f).bus = s.bus := rfl
@[simp] theorem State.modBay_handler (b : Bay) (f : BayRecord → BayRecord) : (s.modBay b f).handler = s.handler := rfl
@[simp] theorem State.modBay_startup (b : Bay) (f : BayRecord → BayRecord) : (s.modBay b f).startup = s.startup := rfl
@[simp] theorem State.modBay_inputs (b : Bay) (f : BayRecord → BayRecord) : (s.modBay b f).inputs = s.inputs := rfl
@[simp] theorem State.modBay_freeCount (b : Bay) (f : BayRecord → BayRecord) : (s.modBay b f).freeCount = s.freeCount := rfl
@[simp] theorem State.modBay_pending (b : Bay) (f : BayRecord → BayRecord) : (s.modBay b f).pending = s.pending := rfl

@[simp] theorem State.modJob_pacing (b : Bay) (f : Job → Job) : (s.modJob b f).pacing = s.pacing := rfl
@[simp] theorem State.modJob_scanner (b : Bay) (f : Job → Job) : (s.modJob b f).scanner = s.scanner := rfl
@[simp] theorem State.modJob_share (b : Bay) (f : Job → Job) : (s.modJob b f).share = s.share := rfl
@[simp] theorem State.modJob_custody (b : Bay) (f : Job → Job) : (s.modJob b f).custody = s.custody := rfl
@[simp] theorem State.modJob_bids (b : Bay) (f : Job → Job) : (s.modJob b f).bids = s.bids := rfl
@[simp] theorem State.modJob_lanes (b : Bay) (f : Job → Job) : (s.modJob b f).lanes = s.lanes := rfl
@[simp] theorem State.modJob_bus (b : Bay) (f : Job → Job) : (s.modJob b f).bus = s.bus := rfl
@[simp] theorem State.modJob_handler (b : Bay) (f : Job → Job) : (s.modJob b f).handler = s.handler := rfl
@[simp] theorem State.modJob_startup (b : Bay) (f : Job → Job) : (s.modJob b f).startup = s.startup := rfl
@[simp] theorem State.modJob_inputs (b : Bay) (f : Job → Job) : (s.modJob b f).inputs = s.inputs := rfl
@[simp] theorem State.modJob_freeCount (b : Bay) (f : Job → Job) : (s.modJob b f).freeCount = s.freeCount := rfl
@[simp] theorem State.modJob_pending (b : Bay) (f : Job → Job) : (s.modJob b f).pending = s.pending := rfl

@[simp] theorem State.withTxq_bays (q : List TxEntry) : (s.withTxq q).bays = s.bays := rfl
@[simp] theorem State.withTxq_pacing (q : List TxEntry) : (s.withTxq q).pacing = s.pacing := rfl
@[simp] theorem State.withTxq_scanner (q : List TxEntry) : (s.withTxq q).scanner = s.scanner := rfl
@[simp] theorem State.withTxq_share (q : List TxEntry) : (s.withTxq q).share = s.share := rfl
@[simp] theorem State.withTxq_custody (q : List TxEntry) : (s.withTxq q).custody = s.custody := rfl
@[simp] theorem State.withTxq_bids (q : List TxEntry) : (s.withTxq q).bids = s.bids := rfl
@[simp] theorem State.withTxq_lanes (q : List TxEntry) : (s.withTxq q).lanes = s.lanes := rfl
@[simp] theorem State.withTxq_handler (q : List TxEntry) : (s.withTxq q).handler = s.handler := rfl
@[simp] theorem State.withTxq_startup (q : List TxEntry) : (s.withTxq q).startup = s.startup := rfl
@[simp] theorem State.withTxq_inputs (q : List TxEntry) : (s.withTxq q).inputs = s.inputs := rfl
@[simp] theorem State.withTxq_freeCount (q : List TxEntry) : (s.withTxq q).freeCount = s.freeCount := rfl
@[simp] theorem State.withTxq_pending (q : List TxEntry) : (s.withTxq q).pending = s.pending := rfl

@[simp] theorem State.withShare_bays (h : Share) : (s.withShare h).bays = s.bays := rfl
@[simp] theorem State.withShare_pacing (h : Share) : (s.withShare h).pacing = s.pacing := rfl
@[simp] theorem State.withShare_scanner (h : Share) : (s.withShare h).scanner = s.scanner := rfl
@[simp] theorem State.withShare_custody (h : Share) : (s.withShare h).custody = s.custody := rfl
@[simp] theorem State.withShare_bids (h : Share) : (s.withShare h).bids = s.bids := rfl
@[simp] theorem State.withShare_lanes (h : Share) : (s.withShare h).lanes = s.lanes := rfl
@[simp] theorem State.withShare_bus (h : Share) : (s.withShare h).bus = s.bus := rfl
@[simp] theorem State.withShare_handler (h : Share) : (s.withShare h).handler = s.handler := rfl
@[simp] theorem State.withShare_startup (h : Share) : (s.withShare h).startup = s.startup := rfl
@[simp] theorem State.withShare_inputs (h : Share) : (s.withShare h).inputs = s.inputs := rfl
@[simp] theorem State.withShare_freeCount (h : Share) : (s.withShare h).freeCount = s.freeCount := rfl
@[simp] theorem State.withShare_pending (h : Share) : (s.withShare h).pending = s.pending := rfl

@[simp] theorem State.modPeer_bays (i : Fin 15) (f : Peer → Peer) : (s.modPeer i f).bays = s.bays := rfl
@[simp] theorem State.modPeer_pacing (i : Fin 15) (f : Peer → Peer) : (s.modPeer i f).pacing = s.pacing := rfl
@[simp] theorem State.modPeer_scanner (i : Fin 15) (f : Peer → Peer) : (s.modPeer i f).scanner = s.scanner := rfl
@[simp] theorem State.modPeer_custody (i : Fin 15) (f : Peer → Peer) : (s.modPeer i f).custody = s.custody := rfl
@[simp] theorem State.modPeer_bids (i : Fin 15) (f : Peer → Peer) : (s.modPeer i f).bids = s.bids := rfl
@[simp] theorem State.modPeer_lanes (i : Fin 15) (f : Peer → Peer) : (s.modPeer i f).lanes = s.lanes := rfl
@[simp] theorem State.modPeer_bus (i : Fin 15) (f : Peer → Peer) : (s.modPeer i f).bus = s.bus := rfl
@[simp] theorem State.modPeer_handler (i : Fin 15) (f : Peer → Peer) : (s.modPeer i f).handler = s.handler := rfl
@[simp] theorem State.modPeer_startup (i : Fin 15) (f : Peer → Peer) : (s.modPeer i f).startup = s.startup := rfl
@[simp] theorem State.modPeer_inputs (i : Fin 15) (f : Peer → Peer) : (s.modPeer i f).inputs = s.inputs := rfl
@[simp] theorem State.modPeer_freeCount (i : Fin 15) (f : Peer → Peer) : (s.modPeer i f).freeCount = s.freeCount := rfl
@[simp] theorem State.modPeer_pending (i : Fin 15) (f : Peer → Peer) : (s.modPeer i f).pending = s.pending := rfl

@[simp] theorem State.withClaim_bays (c : Option Claim) : (s.withClaim c).bays = s.bays := rfl
@[simp] theorem State.withClaim_pacing (c : Option Claim) : (s.withClaim c).pacing = s.pacing := rfl
@[simp] theorem State.withClaim_scanner (c : Option Claim) : (s.withClaim c).scanner = s.scanner := rfl
@[simp] theorem State.withClaim_share (c : Option Claim) : (s.withClaim c).share = s.share := rfl
@[simp] theorem State.withClaim_custody (c : Option Claim) : (s.withClaim c).custody = s.custody := rfl
@[simp] theorem State.withClaim_bids (c : Option Claim) : (s.withClaim c).bids = s.bids := rfl
@[simp] theorem State.withClaim_bus (c : Option Claim) : (s.withClaim c).bus = s.bus := rfl
@[simp] theorem State.withClaim_handler (c : Option Claim) : (s.withClaim c).handler = s.handler := rfl
@[simp] theorem State.withClaim_startup (c : Option Claim) : (s.withClaim c).startup = s.startup := rfl
@[simp] theorem State.withClaim_inputs (c : Option Claim) : (s.withClaim c).inputs = s.inputs := rfl
@[simp] theorem State.withClaim_freeCount (c : Option Claim) : (s.withClaim c).freeCount = s.freeCount := rfl
@[simp] theorem State.withClaim_pending (c : Option Claim) : (s.withClaim c).pending = s.pending := rfl

@[simp] theorem State.withHolder_bays (x : Lane) (h : Option Holder) : (s.withHolder x h).bays = s.bays := rfl
@[simp] theorem State.withHolder_pacing (x : Lane) (h : Option Holder) : (s.withHolder x h).pacing = s.pacing := rfl
@[simp] theorem State.withHolder_scanner (x : Lane) (h : Option Holder) : (s.withHolder x h).scanner = s.scanner := rfl
@[simp] theorem State.withHolder_share (x : Lane) (h : Option Holder) : (s.withHolder x h).share = s.share := rfl
@[simp] theorem State.withHolder_custody (x : Lane) (h : Option Holder) : (s.withHolder x h).custody = s.custody := rfl
@[simp] theorem State.withHolder_bids (x : Lane) (h : Option Holder) : (s.withHolder x h).bids = s.bids := rfl
@[simp] theorem State.withHolder_bus (x : Lane) (h : Option Holder) : (s.withHolder x h).bus = s.bus := rfl
@[simp] theorem State.withHolder_handler (x : Lane) (h : Option Holder) : (s.withHolder x h).handler = s.handler := rfl
@[simp] theorem State.withHolder_startup (x : Lane) (h : Option Holder) : (s.withHolder x h).startup = s.startup := rfl
@[simp] theorem State.withHolder_inputs (x : Lane) (h : Option Holder) : (s.withHolder x h).inputs = s.inputs := rfl
@[simp] theorem State.withHolder_freeCount (x : Lane) (h : Option Holder) : (s.withHolder x h).freeCount = s.freeCount := rfl
@[simp] theorem State.withHolder_pending (x : Lane) (h : Option Holder) : (s.withHolder x h).pending = s.pending := rfl

@[simp] theorem State.withDrive_bays (x : Lane) (on : Bool) : (s.withDrive x on).bays = s.bays := rfl
@[simp] theorem State.withDrive_pacing (x : Lane) (on : Bool) : (s.withDrive x on).pacing = s.pacing := rfl
@[simp] theorem State.withDrive_scanner (x : Lane) (on : Bool) : (s.withDrive x on).scanner = s.scanner := rfl
@[simp] theorem State.withDrive_share (x : Lane) (on : Bool) : (s.withDrive x on).share = s.share := rfl
@[simp] theorem State.withDrive_custody (x : Lane) (on : Bool) : (s.withDrive x on).custody = s.custody := rfl
@[simp] theorem State.withDrive_bids (x : Lane) (on : Bool) : (s.withDrive x on).bids = s.bids := rfl
@[simp] theorem State.withDrive_bus (x : Lane) (on : Bool) : (s.withDrive x on).bus = s.bus := rfl
@[simp] theorem State.withDrive_handler (x : Lane) (on : Bool) : (s.withDrive x on).handler = s.handler := rfl
@[simp] theorem State.withDrive_startup (x : Lane) (on : Bool) : (s.withDrive x on).startup = s.startup := rfl
@[simp] theorem State.withDrive_inputs (x : Lane) (on : Bool) : (s.withDrive x on).inputs = s.inputs := rfl
@[simp] theorem State.withDrive_freeCount (x : Lane) (on : Bool) : (s.withDrive x on).freeCount = s.freeCount := rfl
@[simp] theorem State.withDrive_pending (x : Lane) (on : Bool) : (s.withDrive x on).pending = s.pending := rfl

@[simp] theorem State.modBid_bays (m : Node) (q : ReqNo) (f : BidEntry → BidEntry) : (s.modBid m q f).bays = s.bays := rfl
@[simp] theorem State.modBid_pacing (m : Node) (q : ReqNo) (f : BidEntry → BidEntry) : (s.modBid m q f).pacing = s.pacing := rfl
@[simp] theorem State.modBid_scanner (m : Node) (q : ReqNo) (f : BidEntry → BidEntry) : (s.modBid m q f).scanner = s.scanner := rfl
@[simp] theorem State.modBid_share (m : Node) (q : ReqNo) (f : BidEntry → BidEntry) : (s.modBid m q f).share = s.share := rfl
@[simp] theorem State.modBid_custody (m : Node) (q : ReqNo) (f : BidEntry → BidEntry) : (s.modBid m q f).custody = s.custody := rfl
@[simp] theorem State.modBid_lanes (m : Node) (q : ReqNo) (f : BidEntry → BidEntry) : (s.modBid m q f).lanes = s.lanes := rfl
@[simp] theorem State.modBid_bus (m : Node) (q : ReqNo) (f : BidEntry → BidEntry) : (s.modBid m q f).bus = s.bus := rfl
@[simp] theorem State.modBid_handler (m : Node) (q : ReqNo) (f : BidEntry → BidEntry) : (s.modBid m q f).handler = s.handler := rfl
@[simp] theorem State.modBid_startup (m : Node) (q : ReqNo) (f : BidEntry → BidEntry) : (s.modBid m q f).startup = s.startup := rfl
@[simp] theorem State.modBid_inputs (m : Node) (q : ReqNo) (f : BidEntry → BidEntry) : (s.modBid m q f).inputs = s.inputs := rfl
@[simp] theorem State.modBid_freeCount (m : Node) (q : ReqNo) (f : BidEntry → BidEntry) : (s.modBid m q f).freeCount = s.freeCount := rfl
@[simp] theorem State.modBid_pending (m : Node) (q : ReqNo) (f : BidEntry → BidEntry) : (s.modBid m q f).pending = s.pending := rfl

@[simp] theorem State.withConfirmation_bays (m : Option Node) (n : Nat) : (s.withConfirmation m n).bays = s.bays := rfl
@[simp] theorem State.withConfirmation_pacing (m : Option Node) (n : Nat) : (s.withConfirmation m n).pacing = s.pacing := rfl
@[simp] theorem State.withConfirmation_scanner (m : Option Node) (n : Nat) : (s.withConfirmation m n).scanner = s.scanner := rfl
@[simp] theorem State.withConfirmation_share (m : Option Node) (n : Nat) : (s.withConfirmation m n).share = s.share := rfl
@[simp] theorem State.withConfirmation_bids (m : Option Node) (n : Nat) : (s.withConfirmation m n).bids = s.bids := rfl
@[simp] theorem State.withConfirmation_lanes (m : Option Node) (n : Nat) : (s.withConfirmation m n).lanes = s.lanes := rfl
@[simp] theorem State.withConfirmation_bus (m : Option Node) (n : Nat) : (s.withConfirmation m n).bus = s.bus := rfl
@[simp] theorem State.withConfirmation_handler (m : Option Node) (n : Nat) : (s.withConfirmation m n).handler = s.handler := rfl
@[simp] theorem State.withConfirmation_startup (m : Option Node) (n : Nat) : (s.withConfirmation m n).startup = s.startup := rfl
@[simp] theorem State.withConfirmation_inputs (m : Option Node) (n : Nat) : (s.withConfirmation m n).inputs = s.inputs := rfl
@[simp] theorem State.withConfirmation_freeCount (m : Option Node) (n : Nat) : (s.withConfirmation m n).freeCount = s.freeCount := rfl
@[simp] theorem State.withConfirmation_pending (m : Option Node) (n : Nat) : (s.withConfirmation m n).pending = s.pending := rfl

@[simp] theorem State.atEdge_bays (edge : Nat) : (s.atEdge edge).bays = s.bays := rfl
@[simp] theorem State.atEdge_scanner (edge : Nat) : (s.atEdge edge).scanner = s.scanner := rfl
@[simp] theorem State.atEdge_share (edge : Nat) : (s.atEdge edge).share = s.share := rfl
@[simp] theorem State.atEdge_custody (edge : Nat) : (s.atEdge edge).custody = s.custody := rfl
@[simp] theorem State.atEdge_bids (edge : Nat) : (s.atEdge edge).bids = s.bids := rfl
@[simp] theorem State.atEdge_lanes (edge : Nat) : (s.atEdge edge).lanes = s.lanes := rfl
@[simp] theorem State.atEdge_bus (edge : Nat) : (s.atEdge edge).bus = s.bus := rfl
@[simp] theorem State.atEdge_handler (edge : Nat) : (s.atEdge edge).handler = s.handler := rfl
@[simp] theorem State.atEdge_startup (edge : Nat) : (s.atEdge edge).startup = s.startup := rfl
@[simp] theorem State.atEdge_inputs (edge : Nat) : (s.atEdge edge).inputs = s.inputs := rfl
@[simp] theorem State.atEdge_freeCount (edge : Nat) : (s.atEdge edge).freeCount = s.freeCount := rfl
@[simp] theorem State.atEdge_pending (edge : Nat) : (s.atEdge edge).pending = s.pending := rfl
@[simp] theorem State.atEdge_pacing (edge : Nat) : (s.atEdge edge).pacing = { s.pacing with prescaler := edge } := rfl

@[simp] theorem State.withLine_bays (l : Line) (j : Bool) : (s.withLine l j).bays = s.bays := rfl
@[simp] theorem State.withLine_pacing (l : Line) (j : Bool) : (s.withLine l j).pacing = s.pacing := rfl
@[simp] theorem State.withLine_scanner (l : Line) (j : Bool) : (s.withLine l j).scanner = s.scanner := rfl
@[simp] theorem State.withLine_share (l : Line) (j : Bool) : (s.withLine l j).share = s.share := rfl
@[simp] theorem State.withLine_custody (l : Line) (j : Bool) : (s.withLine l j).custody = s.custody := rfl
@[simp] theorem State.withLine_bids (l : Line) (j : Bool) : (s.withLine l j).bids = s.bids := rfl
@[simp] theorem State.withLine_lanes (l : Line) (j : Bool) : (s.withLine l j).lanes = s.lanes := rfl
@[simp] theorem State.withLine_handler (l : Line) (j : Bool) : (s.withLine l j).handler = s.handler := rfl
@[simp] theorem State.withLine_startup (l : Line) (j : Bool) : (s.withLine l j).startup = s.startup := rfl
@[simp] theorem State.withLine_inputs (l : Line) (j : Bool) : (s.withLine l j).inputs = s.inputs := rfl
@[simp] theorem State.withLine_freeCount (l : Line) (j : Bool) : (s.withLine l j).freeCount = s.freeCount := rfl
@[simp] theorem State.withLine_pending (l : Line) (j : Bool) : (s.withLine l j).pending = s.pending := rfl

@[simp] theorem State.countBitError_bays : (s.countBitError).bays = s.bays := rfl
@[simp] theorem State.countBitError_pacing : (s.countBitError).pacing = s.pacing := rfl
@[simp] theorem State.countBitError_scanner : (s.countBitError).scanner = s.scanner := rfl
@[simp] theorem State.countBitError_share : (s.countBitError).share = s.share := rfl
@[simp] theorem State.countBitError_custody : (s.countBitError).custody = s.custody := rfl
@[simp] theorem State.countBitError_bids : (s.countBitError).bids = s.bids := rfl
@[simp] theorem State.countBitError_lanes : (s.countBitError).lanes = s.lanes := rfl
@[simp] theorem State.countBitError_handler : (s.countBitError).handler = s.handler := rfl
@[simp] theorem State.countBitError_startup : (s.countBitError).startup = s.startup := rfl
@[simp] theorem State.countBitError_inputs : (s.countBitError).inputs = s.inputs := rfl
@[simp] theorem State.countBitError_freeCount : (s.countBitError).freeCount = s.freeCount := rfl
@[simp] theorem State.countBitError_pending : (s.countBitError).pending = s.pending := rfl

/-! ### What they write -/

@[simp] theorem State.withShare_share (h : Share) : (s.withShare h).share = h := rfl
@[simp] theorem State.withTxq_txq (q : List TxEntry) : (s.withTxq q).bus.txq = q := rfl
@[simp] theorem State.withTxq_bus (q : List TxEntry) : (s.withTxq q).bus = { s.bus with txq := q } := rfl
@[simp] theorem State.withLine_bus (l : Line) (j : Bool) : (s.withLine l j).bus = { s.bus with line := l, recessive := if l = .idle then 12 else 0, joined := j } := rfl
@[simp] theorem State.countBitError_bus : s.countBitError.bus = { s.bus with errorRun := min 3 (s.bus.errorRun + 1) } := rfl
@[simp] theorem State.withClaim_lanes (c : Option Claim) : (s.withClaim c).lanes = { s.lanes with claim := c } := rfl
@[simp] theorem State.withHolder_lanes (x : Lane) (h : Option Holder) :
    (s.withHolder x h).lanes = { s.lanes with table := s.lanes.table.set x h } := rfl
@[simp] theorem State.withDrive_lanes (x : Lane) (on : Bool) :
    (s.withDrive x on).lanes = { s.lanes with drive := s.lanes.drive.set x on } := rfl
@[simp] theorem State.withConfirmation_custody (m : Option Node) (n : Nat) :
    (s.withConfirmation m n).custody = { s.custody with allSource := m, allCount := n } := rfl
@[simp] theorem State.modBid_bids (m : Node) (q : ReqNo) (f : BidEntry → BidEntry) :
    (s.modBid m q f).bids = s.bids.map fun e => if e.isFor m q then f e else e := rfl

/-! ### Reading a bay -/

theorem State.bay_eq (b : Bay) : s.bay b = s.bays[b] := rfl

/-- A bay is read from the bay records alone. -/
theorem State.bay_congr {s t : State} (h : t.bays = s.bays) (b : Bay) : t.bay b = s.bay b := by
  simp [State.bay, h]

@[simp] theorem State.bay_withTxq (q : List TxEntry) (b : Bay) : (s.withTxq q).bay b = s.bay b := rfl
@[simp] theorem State.bay_withShare (h : Share) (b : Bay) : (s.withShare h).bay b = s.bay b := rfl
@[simp] theorem State.bay_modPeer (i : Fin 15) (f : Peer → Peer) (b : Bay) : (s.modPeer i f).bay b = s.bay b := rfl
@[simp] theorem State.bay_withClaim (c : Option Claim) (b : Bay) : (s.withClaim c).bay b = s.bay b := rfl
@[simp] theorem State.bay_withHolder (x : Lane) (h : Option Holder) (b : Bay) : (s.withHolder x h).bay b = s.bay b := rfl
@[simp] theorem State.bay_withDrive (x : Lane) (on : Bool) (b : Bay) : (s.withDrive x on).bay b = s.bay b := rfl
@[simp] theorem State.bay_modBid (m : Node) (q : ReqNo) (f : BidEntry → BidEntry) (b : Bay) :
    (s.modBid m q f).bay b = s.bay b := rfl
@[simp] theorem State.bay_withConfirmation (m : Option Node) (n : Nat) (b : Bay) :
    (s.withConfirmation m n).bay b = s.bay b := rfl
@[simp] theorem State.bay_atEdge (edge : Nat) (b : Bay) : (s.atEdge edge).bay b = s.bay b := rfl
@[simp] theorem State.bay_withLine (l : Line) (j : Bool) (b : Bay) : (s.withLine l j).bay b = s.bay b := rfl

/-- A bay read after a bay was written. -/
theorem State.bay_setBay (b c : Bay) (r : BayRecord) : (s.setBay b r).bay c = if c = b then r else s.bay c := by
  simp only [State.bay, State.setBay, Fin.getElem_fin, Vector.getElem_set, ← Fin.ext_iff]
  split <;> split <;> simp_all

@[simp] theorem State.bay_setBay_self (b : Bay) (r : BayRecord) : (s.setBay b r).bay b = r := by simp [State.bay_setBay]

theorem State.bay_setBay_ne {b c : Bay} (h : c ≠ b) (r : BayRecord) : (s.setBay b r).bay c = s.bay c := by
  simp [State.bay_setBay, h]

/-- A bay read after a bay was changed. -/
theorem State.bay_modBay (b c : Bay) (f : BayRecord → BayRecord) :
    (s.modBay b f).bay c = if c = b then f (s.bay b) else s.bay c := by
  simp [State.modBay, State.bay_setBay]

@[simp] theorem State.bay_modBay_self (b : Bay) (f : BayRecord → BayRecord) : (s.modBay b f).bay b = f (s.bay b) := by
  simp [State.modBay]

theorem State.bay_modBay_ne {b c : Bay} (h : c ≠ b) (f : BayRecord → BayRecord) : (s.modBay b f).bay c = s.bay c := by
  simp [State.bay_modBay, h]

/-- Two changes of one bay's record are one change. -/
theorem State.modBay_modBay (b : Bay) (f g : BayRecord → BayRecord) :
    (s.modBay b f).modBay b g = s.modBay b fun r => g (f r) := by
  simp only [State.modBay, State.bay_setBay_self]
  simp only [State.setBay, Vector.set_set]

/-- Two states with equal bays hold equal bay records. -/
theorem State.bays_ext {u v : Vector BayRecord 8} (h : ∀ b : Bay, u[b] = v[b]) : u = v := by
  ext i hi
  simpa using h ⟨i, hi⟩

end Sys2Proof.Machine
end

