-- ==== Sys2Proof/Laws/Units.lean ====
section
/-! SUPPORT. Every operation of the bid unit, the lane unit and the transmit queue alters only what `UnitsOnly`
names: the frame of whatever is told to those units, said once for each operation. -/

namespace Sys2Proof.Machine

/-! ### The relation on bay records -/

/-- `UnitsOnly` field by field. -/
theorem BayRecord.unitsOnly_iff {r t : BayRecord} :
    r.UnitsOnly t ↔
      t.populated = r.populated ∧ t.profile = r.profile ∧ t.presence = r.presence ∧ t.door = r.door ∧
      t.lock = r.lock ∧ t.prot = r.prot ∧ t.filtered = r.filtered ∧ t.measure = r.measure ∧
      t.notedLimit = r.notedLimit ∧ t.out = { r.out with crosspoint := t.out.crosspoint } ∧
      t.charge = { r.charge with provisioned := t.charge.provisioned } := by
  obtain ⟨⟩ := r
  obtain ⟨⟩ := t
  simp only [BayRecord.UnitsOnly, BayRecord.mk.injEq]
  tauto

theorem BayRecord.UnitsOnly.refl (r : BayRecord) : r.UnitsOnly r := rfl

theorem BayRecord.UnitsOnly.trans {r t u : BayRecord} (h : r.UnitsOnly t) (k : t.UnitsOnly u) : r.UnitsOnly u := by
  simp only [BayRecord.unitsOnly_iff] at h k ⊢
  obtain ⟨h1, h2, h3, h4, h5, h6, h7, h8, h9, h10, h11⟩ := h
  obtain ⟨k1, k2, k3, k4, k5, k6, k7, k8, k9, k10, k11⟩ := k
  refine ⟨k1.trans h1, k2.trans h2, k3.trans h3, k4.trans h4, k5.trans h5, k6.trans h6, k7.trans h7, k8.trans h8,
    k9.trans h9, ?_, ?_⟩
  · rw [k10, h10]
  · rw [k11, h11]

/-! ### The relation on states -/

/-- `UnitsOnly` component by component. -/
theorem State.unitsOnly_iff {s t : State} :
    s.UnitsOnly t ↔
      (∀ b, (s.bay b).UnitsOnly (t.bay b)) ∧ t.pacing = s.pacing ∧ t.scanner = s.scanner ∧ t.share = s.share ∧
      t.custody = s.custody ∧ t.handler = s.handler ∧ t.startup = s.startup ∧ t.inputs = s.inputs ∧
      t.freeCount = s.freeCount ∧ t.pending = s.pending ∧
      t.bus = { s.bus with txq := t.bus.txq, holding := t.bus.holding } ∧
      ∀ e ∈ s.bus.txq, e.frame.stays → e ∈ t.bus.txq := by
  obtain ⟨⟩ := s
  obtain ⟨⟩ := t
  simp only [State.UnitsOnly, State.mk.injEq]
  tauto

theorem State.UnitsOnly.refl (s : State) : s.UnitsOnly s := ⟨fun b => .refl (s.bay b), fun _ h _ => h, rfl⟩

theorem State.UnitsOnly.of_eq {s t : State} (h : t = s) : s.UnitsOnly t := h ▸ .refl s

theorem State.UnitsOnly.trans {s t u : State} (h : s.UnitsOnly t) (k : t.UnitsOnly u) : s.UnitsOnly u := by
  rw [State.unitsOnly_iff] at h k ⊢
  obtain ⟨h0, h1, h2, h3, h4, h5, h6, h7, h8, h9, h10, h11⟩ := h
  obtain ⟨k0, k1, k2, k3, k4, k5, k6, k7, k8, k9, k10, k11⟩ := k
  refine ⟨fun b => (h0 b).trans (k0 b), k1.trans h1, k2.trans h2, k3.trans h3, k4.trans h4, k5.trans h5, k6.trans h6,
    k7.trans h7, k8.trans h8, k9.trans h9, ?_, fun e he hf => k11 e (h11 e he hf) hf⟩
  rw [k10, h10]

/-- An operation that alters only what the units own, applied along a list, does so too. -/
theorem State.UnitsOnly.foldl {α : Type} {f : State → α → State} (h : ∀ (s : State) a, s.UnitsOnly (f s a)) (s : State)
    (l : List α) : s.UnitsOnly (l.foldl f s) := by
  induction l generalizing s with
  | nil => exact .refl s
  | cons a l ih => exact (h s a).trans (ih _)

/-- Such an operation done for every bay. -/
theorem State.UnitsOnly.forBays {f : State → Bay → State} (h : ∀ (s : State) b, s.UnitsOnly (f s b)) (s : State) :
    s.UnitsOnly (s.forBays f) := .foldl h s allBays

/-! ### Small updates -/

theorem State.unitsOnly_modBay (s : State) (b : Bay) {f : BayRecord → BayRecord} (h : ∀ r : BayRecord, r.UnitsOnly (f r)) :
    s.UnitsOnly (s.modBay b f) := by
  refine ⟨fun c => ?_, fun _ h _ => h, rfl⟩
  rw [State.bay_modBay]
  split
  · subst_vars; exact h _
  · exact .refl _

theorem State.unitsOnly_mapBays (s : State) {f : Bay → BayRecord → BayRecord} (h : ∀ b (r : BayRecord), r.UnitsOnly (f b r)) :
    s.UnitsOnly (s.mapBays f) := .foldl (fun t b => t.unitsOnly_modBay b (h b)) s allBays

theorem State.unitsOnly_modJob (s : State) (b : Bay) (f : Job → Job) : s.UnitsOnly (s.modJob b f) :=
  s.unitsOnly_modBay b fun _ => rfl

theorem State.unitsOnly_withTxq (s : State) {q : List TxEntry} (h : ∀ e ∈ s.bus.txq, e.frame.stays → e ∈ q) :
    s.UnitsOnly (s.withTxq q) := ⟨fun _ => rfl, h, rfl⟩
theorem State.unitsOnly_withClaim (s : State) (c : Option Claim) : s.UnitsOnly (s.withClaim c) := ⟨fun _ => rfl, fun _ h _ => h, rfl⟩
theorem State.unitsOnly_withHolder (s : State) (x : Lane) (h : Option Holder) : s.UnitsOnly (s.withHolder x h) :=
  ⟨fun _ => rfl, fun _ h _ => h, rfl⟩
theorem State.unitsOnly_withDrive (s : State) (x : Lane) (on : Bool) : s.UnitsOnly (s.withDrive x on) :=
  ⟨fun _ => rfl, fun _ h _ => h, rfl⟩
theorem State.unitsOnly_modBid (s : State) (m : Node) (q : ReqNo) (f : BidEntry → BidEntry) :
    s.UnitsOnly (s.modBid m q f) := ⟨fun _ => rfl, fun _ h _ => h, rfl⟩

/-! ### The transmit queue -/

theorem mem_insertFrame {e : TxEntry} {f : TxFrame} {q : List TxEntry} (h : e ∈ q) : e ∈ insertFrame f q := by
  induction q with
  | nil => cases h
  | cons a q ih =>
    unfold insertFrame
    split
    · rcases List.mem_cons.1 h with rfl | h
      · exact List.mem_cons_self ..
      · exact List.mem_cons_of_mem _ (ih h)
    · exact List.mem_cons_of_mem _ h

/-- The frame placed is in the queue. -/
theorem mem_insertFrame_self (f : TxFrame) (q : List TxEntry) :
    { frame := f, sending := false, doomed := false } ∈ insertFrame f q := by
  induction q with
  | nil => exact List.mem_cons_self ..
  | cons a q ih =>
    unfold insertFrame
    split
    · exact List.mem_cons_of_mem _ ih
    · exact List.mem_cons_self ..

theorem length_insertFrame (f : TxFrame) (q : List TxEntry) : (insertFrame f q).length = q.length + 1 := by
  induction q with
  | nil => rfl
  | cons a q ih =>
    unfold insertFrame
    split <;> simp [ih]

/-- Replacing keeps every entry that the offered frame does not replace. -/
theorem mem_replaceFrame {e : TxEntry} {f : TxFrame} {q : List TxEntry} (h : e ∈ q) (hr : e.replacedBy f = false) :
    e ∈ replaceFrame f q := by
  induction q with
  | nil => cases h
  | cons a q ih =>
    unfold replaceFrame
    rcases List.mem_cons.1 h with rfl | h
    · simp [hr]
    · split
      · exact List.mem_cons_of_mem _ h
      · exact List.mem_cons_of_mem _ (ih h)

/-- The frame that replaces another is in the queue. -/
theorem mem_replaceFrame_self {f : TxFrame} {q : List TxEntry} (h : q.any (·.replacedBy f) = true) :
    { frame := f, sending := false, doomed := false } ∈ replaceFrame f q := by
  induction q with
  | nil => cases h
  | cons a q ih =>
    unfold replaceFrame
    split
    · exact List.mem_cons_self ..
    · rename_i ha
      refine List.mem_cons_of_mem _ (ih ?_)
      simpa [ha] using h

theorem length_replaceFrame (f : TxFrame) (q : List TxEntry) : (replaceFrame f q).length = q.length := by
  induction q with
  | nil => rfl
  | cons a q ih =>
    unfold replaceFrame
    split <;> simp [ih]

/-- Everything an offer can do. -/
theorem State.offer_cases {s t : State} {f : TxFrame} (h : s.offer f = some t) :
    s.takesOffer f = true ∧ { frame := f, sending := false, doomed := false } ∈ t.bus.txq ∧
    ((f.replaceable = true ∧ t = s.withTxq (replaceFrame f s.bus.txq)) ∨
      (s.bus.txq.length < 8 ∧ t = s.withTxq (insertFrame f s.bus.txq))) := by
  unfold State.offer at h
  split at h
  · cases h
  · rename_i htakes
    have htakes : s.takesOffer f = true := by simpa using htakes
    split at h
    · rename_i hr
      rw [Bool.and_eq_true] at hr
      cases h
      exact ⟨htakes, mem_replaceFrame_self hr.2, .inl ⟨hr.1, rfl⟩⟩
    · split at h
      · rename_i hl
        cases h
        exact ⟨htakes, mem_insertFrame_self _ _, .inr ⟨hl, rfl⟩⟩
      · cases h

/-- An offer that is taken changes the transmit queue and nothing else. -/
theorem State.offer_eq {s t : State} {f : TxFrame} (h : s.offer f = some t) : t = s.withTxq t.bus.txq := by
  obtain ⟨-, -, ⟨-, rfl⟩ | ⟨-, rfl⟩⟩ := State.offer_cases h <;> rfl

/-- An offer of any frame but a REPORT removes no frame that stays. -/
theorem State.unitsOnly_offer {s t : State} {f : TxFrame} (h : s.offer f = some t) (hf : f.cls ≠ 5) :
    s.UnitsOnly t := by
  obtain ⟨-, -, ⟨hr, rfl⟩ | ⟨-, rfl⟩⟩ := State.offer_cases h
  · refine s.unitsOnly_withTxq fun e he hs => mem_replaceFrame he ?_
    have h0 : f.cls = 0 := by simpa [TxFrame.replaceable, hf] using hr
    have he0 : e.frame.cls ≠ 0 := by revert hs; cases e.frame <;> simp [TxFrame.stays, TxFrame.cls]
    simp [TxEntry.replacedBy, h0, he0]
  · exact s.unitsOnly_withTxq fun e he _ => mem_insertFrame he

theorem State.unitsOnly_offerOrDrop (s : State) {f : TxFrame} (hf : f.cls ≠ 5) : s.UnitsOnly (s.offerOrDrop f) := by
  unfold State.offerOrDrop
  cases h : s.offer f with
  | none => exact .refl s
  | some t => exact State.unitsOnly_offer h hf

theorem State.unitsOnly_resumeEvent (s : State) : s.UnitsOnly s.resumeEvent := by
  unfold State.resumeEvent
  split
  · split
    · exact ⟨fun _ => rfl, fun _ h _ => h, rfl⟩
    · split
      · rename_i t h
        exact (State.unitsOnly_offer h (by simp [TxFrame.cls])).trans ⟨fun _ => rfl, fun _ h _ => h, rfl⟩
      · exact .refl s
  · exact .refl s

/-- Removing FLOW, BID and LANE CLAIM frames. -/
theorem State.unitsOnly_removeFrames (s : State) {p : TxEntry → Bool} (hp : ∀ e, p e → e.frame.stays = false) :
    s.UnitsOnly (s.removeFrames p) := by
  unfold State.removeFrames
  split
  · refine (s.unitsOnly_withTxq fun e he hs => ?_).trans (State.unitsOnly_resumeEvent _)
    have : p e ≠ true := fun h => by simp [hp e h] at hs
    simp [he, this]
  · exact .refl s

/-! ### The bid unit -/

theorem State.unitsOnly_release (s : State) (e : BidEntry) : s.UnitsOnly (s.release e) :=
  s.unitsOnly_modBay _ fun r => by split <;> rfl

theorem State.unitsOnly_dropBid (s : State) (e : BidEntry) : s.UnitsOnly (s.dropBid e) :=
  State.UnitsOnly.trans (t := { s with bids := s.bids.filter fun x => !x.isFor e.source e.request })
    ⟨fun _ => rfl, fun _ h _ => h, rfl⟩ (State.unitsOnly_release _ e)

theorem State.unitsOnly_withdrawBid (s : State) (e : BidEntry) : s.UnitsOnly (s.withdrawBid e) :=
  (s.unitsOnly_dropBid e).trans (State.unitsOnly_removeFrames _ fun x hx => by
    cases hf : x.frame <;> simp_all [TxFrame.isBidFor, TxFrame.stays])

theorem State.unitsOnly_voidBid (s : State) (e : BidEntry) : s.UnitsOnly (s.voidBid e) :=
  (s.unitsOnly_release e).trans (State.unitsOnly_modBid _ _ _ _)

theorem State.unitsOnly_judgeBid (s : State) (b : Bay) : s.UnitsOnly (s.judgeBid b) := by
  unfold State.judgeBid
  split
  · exact .refl s
  · split
    · exact .refl s
    · split
      · exact .refl s
      · split
        · exact s.unitsOnly_voidBid _
        · exact s.unitsOnly_withdrawBid _

theorem State.unitsOnly_placeBid {s t : State} {m : Node} {q : ReqNo} {k : BidKind} {n : Nat} {b : Bay} {score : Nat}
    {tagMatch : Bool} (h : s.placeBid m q k n b score tagMatch = some t) : s.UnitsOnly t := by
  simp only [State.placeBid, Option.map_eq_some_iff] at h
  obtain ⟨u, hu, rfl⟩ := h
  exact ((State.unitsOnly_offer hu (by simp [TxFrame.cls])).trans (t := u) ⟨fun _ => rfl, fun _ h _ => h, rfl⟩).trans
    (State.unitsOnly_modBay _ _ fun _ => rfl)

/-! ### The lane unit -/

theorem State.unitsOnly_nameHolder (s : State) (x : Lane) (m : Node) (bay : Option Nat) :
    s.UnitsOnly (s.nameHolder x m bay) := s.unitsOnly_withHolder _ _

theorem State.unitsOnly_openCrosspoints (s : State) (x : Lane) : s.UnitsOnly (s.openCrosspoints x) :=
  s.unitsOnly_mapBays fun _ r => by split <;> rfl

theorem State.unitsOnly_giveUp (s : State) (x : Lane) : s.UnitsOnly (s.giveUp x) := by
  unfold State.giveUp
  refine ((s.unitsOnly_openCrosspoints x).trans (State.unitsOnly_withDrive _ x false)).trans ?_
  dsimp only
  split
  · exact (State.unitsOnly_withHolder _ x none).trans (State.unitsOnly_offerOrDrop _ (by simp [TxFrame.cls]))
  · exact .refl _

theorem State.unitsOnly_connect (s : State) (b : Bay) (x : Lane) : s.UnitsOnly (s.connect b x) := by
  unfold State.connect
  split
  · exact .refl s
  · exact (((s.unitsOnly_modBay b (f := fun r => { r with out := { r.out with crosspoint := some x } }) fun _ => rfl).trans
      (State.unitsOnly_withDrive _ x true)).trans (State.unitsOnly_modJob _ b _)).trans
      (State.unitsOnly_offerOrDrop _ (by simp [TxFrame.cls]))

theorem State.unitsOnly_withdrawClaim (s : State) : s.UnitsOnly s.withdrawClaim :=
  (s.unitsOnly_withTxq fun e he hs => by
    refine List.mem_map.2 ⟨e, he, ?_⟩
    cases hf : e.frame <;> simp_all [TxFrame.stays, TxFrame.isClaim]).trans
  (State.unitsOnly_removeFrames _ fun x hx => by cases hf : x.frame <;> simp_all [TxFrame.isClaim, TxFrame.stays])

theorem State.unitsOnly_abandonClaim (s : State) : s.UnitsOnly s.abandonClaim := by
  unfold State.abandonClaim
  split
  · exact .refl s
  · split
    · exact s.unitsOnly_withClaim none
    · exact s.unitsOnly_withClaim none
    · exact (s.unitsOnly_withClaim none).trans (State.unitsOnly_withdrawClaim _)
    · exact (s.unitsOnly_withClaim none).trans (State.unitsOnly_giveUp _ _)

theorem State.unitsOnly_pickLane (s : State) (b : Bay) : s.UnitsOnly (s.pickLane b) := by
  unfold State.pickLane
  split
  · rename_i x t h
    simp only [Option.bind_eq_some_iff, Option.map_eq_some_iff, Prod.mk.injEq] at h
    obtain ⟨y, -, u, hu, -, rfl⟩ := h
    exact (State.unitsOnly_offer hu (by simp [TxFrame.cls])).trans (State.unitsOnly_withClaim _ _)
  · exact s.unitsOnly_withClaim _

theorem State.unitsOnly_stepClaim (s : State) : s.UnitsOnly s.stepClaim := by
  unfold State.stepClaim
  split
  · exact .refl s
  · split
    · split
      · exact s.unitsOnly_pickLane _
      · exact .refl s
    · exact s.unitsOnly_pickLane _
    · exact .refl s
    · exact .refl s

theorem State.unitsOnly_judgeClaimPower (s : State) : s.UnitsOnly s.judgeClaimPower := by
  unfold State.judgeClaimPower
  split
  · exact .refl s
  · split
    · exact .refl s
    · split
      · exact .refl s
      · exact .refl s
      · exact s.unitsOnly_withClaim _
      · exact (s.unitsOnly_withClaim _).trans (State.unitsOnly_withdrawClaim _)

theorem State.unitsOnly_selectJob (s : State) : s.UnitsOnly s.selectJob := by
  unfold State.selectJob
  split
  · exact .refl s
  · split
    · exact .refl s
    · exact (s.unitsOnly_modJob _ _).trans (State.unitsOnly_withClaim _ _)

theorem State.unitsOnly_laneProgress (s : State) : s.UnitsOnly s.laneProgress :=
  s.unitsOnly_selectJob.trans (State.unitsOnly_stepClaim _)

theorem State.unitsOnly_leaveLane (s : State) (b : Bay) (j : Job) : s.UnitsOnly (s.leaveLane b j) := by
  unfold State.leaveLane
  split
  · exact s.unitsOnly_giveUp _
  · split
    · exact s.unitsOnly_abandonClaim
    · exact .refl s
  · exact .refl s

theorem State.unitsOnly_endJob (s : State) (b : Bay) (o : JobOutcome) : s.UnitsOnly (s.endJob b o) := by
  unfold State.endJob
  split
  · exact .refl s
  · split
    · exact (s.unitsOnly_leaveLane b _).trans (State.unitsOnly_modBay _ b fun _ => rfl)
    · exact .refl s

theorem State.unitsOnly_suspendJob (s : State) (b : Bay) : s.UnitsOnly (s.suspendJob b) := by
  unfold State.suspendJob
  split
  · exact .refl s
  · rename_i j _
    have h := (s.unitsOnly_leaveLane b j).trans (State.unitsOnly_modJob _ b fun j =>
      { j with state := .suspended, lane := none, suspensions := j.suspensions + 1 })
    dsimp only
    split
    · exact h
    · exact h.trans (State.unitsOnly_endJob _ b _)

theorem State.unitsOnly_judgeJob (s : State) (b : Bay) : s.UnitsOnly (s.judgeJob b) := by
  unfold State.judgeJob
  dsimp only
  split
  · exact .refl s
  · split
    · exact .refl s
    · split
      · exact s.unitsOnly_endJob b _
      · split
        · split
          · exact s.unitsOnly_modJob b _
          · exact .refl s
        · split
          · exact s.unitsOnly_modJob b _
          · exact .refl s
        · split
          · exact .refl s
          · exact (s.unitsOnly_leaveLane b _).trans (State.unitsOnly_modJob _ b _)
        · split
          · exact s.unitsOnly_suspendJob b
          · exact .refl s
        · split
          · exact s.unitsOnly_modJob b _
          · exact .refl s
        · exact .refl s
        · exact .refl s

/-- Telling the units of a change in one bay's record alters only what they own. -/
theorem State.unitsOnly_judgeBay (s : State) (b : Bay) : s.UnitsOnly (s.judgeBay b) :=
  (s.unitsOnly_judgeBid b).trans (State.unitsOnly_judgeJob _ b)

theorem State.unitsOnly_afterBay (s : State) (b : Bay) : s.UnitsOnly (s.afterBay b) :=
  (s.unitsOnly_judgeBay b).trans (State.unitsOnly_laneProgress _)

/-- Telling the units of a change in several bays' records alters only what they own. -/
theorem State.unitsOnly_judgeAll (s : State) : s.UnitsOnly s.judgeAll :=
  (State.UnitsOnly.forBays State.unitsOnly_judgeBid s).trans (State.UnitsOnly.forBays State.unitsOnly_judgeJob _)

theorem State.unitsOnly_afterAll (s : State) : s.UnitsOnly s.afterAll :=
  s.unitsOnly_judgeAll.trans (State.unitsOnly_laneProgress _)

/-- The end of a distribution alters only what the units own. -/
theorem State.unitsOnly_afterDistribution (s : State) : s.UnitsOnly s.afterDistribution :=
  (s.unitsOnly_judgeAll.trans (State.unitsOnly_judgeClaimPower _)).trans (State.unitsOnly_laneProgress _)

/-! ### Hearing other stations, and answering -/

theorem State.unitsOnly_giveWay (s : State) (x : Lane) (m : Node) (bay : Option Nat) :
    s.UnitsOnly (s.giveWay x m bay) := by
  unfold State.giveWay
  refine (s.unitsOnly_nameHolder x m bay).trans ?_
  dsimp only
  split
  · exact .refl _
  · exact (State.unitsOnly_withdrawClaim _).trans (State.unitsOnly_pickLane _ _)
  · exact State.unitsOnly_pickLane _ _
  · exact ((State.unitsOnly_openCrosspoints _ x).trans (State.unitsOnly_withDrive _ x false)).trans
      (State.unitsOnly_modJob _ _ _)

theorem State.unitsOnly_hearFree (s : State) (x : Lane) (m : Node) : s.UnitsOnly (s.hearFree x m) := by
  unfold State.hearFree
  split
  · exact s.unitsOnly_withHolder x none
  · exact .refl s

theorem State.unitsOnly_hearClaim (s : State) (x : Lane) (m : Node) (bay : Nat) : s.UnitsOnly (s.hearClaim x m bay) := by
  unfold State.hearClaim
  split
  · exact s.unitsOnly_giveWay x m _
  · exact s.unitsOnly_giveWay x m _
  · split
    · exact s.unitsOnly_giveWay x m _
    · exact .refl s
  · split
    · exact s.unitsOnly_giveWay x m _
    · exact .refl s

theorem State.unitsOnly_hearLane (s : State) (m : Node) (x : Lane) (held : Bool) : s.UnitsOnly (s.hearLane m x held) := by
  unfold State.hearLane
  split
  · split
    · exact s.unitsOnly_nameHolder x m none
    · split
      · exact .refl s
      · split
        · split
          · exact s.unitsOnly_giveWay x m none
          · exact .refl s
        · split
          · exact s.unitsOnly_nameHolder x m none
          · exact .refl s
  · exact s.unitsOnly_hearFree x m

theorem State.unitsOnly_hearLaneSet (s : State) (m : Node) (lanes : Vector Bool 4) :
    s.UnitsOnly (s.hearLaneSet m lanes) := .foldl (fun t x => t.unitsOnly_hearLane m x _) s allLanes

theorem State.unitsOnly_freeLanesOf (s : State) (m : Node) : s.UnitsOnly (s.freeLanesOf m) :=
  .foldl (fun t x => t.unitsOnly_hearFree x m) s allLanes

theorem State.unitsOnly_answer (s : State) (q : Request) (a : Answer) : s.UnitsOnly (s.answer q a) :=
  s.unitsOnly_offerOrDrop (by simp [TxFrame.cls])
theorem State.unitsOnly_accept (s : State) (q : Request) : s.UnitsOnly (s.accept q) := s.unitsOnly_answer q _
theorem State.unitsOnly_refuse (s : State) (q : Request) (r : Reason) : s.UnitsOnly (s.refuse q r) := s.unitsOnly_answer q _

end Sys2Proof.Machine
end

