-- ==== Sys2Proof/Laws/Bays.lean ====
section
/-! SUPPORT. Operations over all bays: what `mapBays` does to each bay, that `forBays` keeps what each of its steps
keeps, and sums over the bays. -/

namespace Sys2Proof.Machine

theorem mem_allBays (b : Bay) : b ∈ allBays := by revert b; decide

theorem nodup_allBays : allBays.Nodup := by decide

theorem foldl_modBay_bay (f : Bay → BayRecord → BayRecord) (l : List Bay) (h : l.Nodup) (s : State) (b : Bay) :
    (l.foldl (fun t c => t.modBay c (f c)) s).bay b = if b ∈ l then f b (s.bay b) else s.bay b := by
  induction l generalizing s with
  | nil => simp
  | cons c l ih =>
    obtain ⟨hc, hl⟩ := List.nodup_cons.1 h
    rw [List.foldl_cons, ih hl, State.bay_modBay]
    by_cases hbc : b = c
    · subst hbc; simp [hc]
    · simp [hbc]

/-- A function applied to every bay's record. -/
@[simp] theorem State.bay_mapBays (s : State) (f : Bay → BayRecord → BayRecord) (b : Bay) :
    (s.mapBays f).bay b = f b (s.bay b) := by
  simp [State.mapBays, foldl_modBay_bay f allBays nodup_allBays, mem_allBays]

/-- A function applied to every bay's record changes nothing but the bay records. -/
theorem State.mapBays_eq (s : State) (f : Bay → BayRecord → BayRecord) : s.mapBays f = { s with bays := (s.mapBays f).bays } := by
  unfold State.mapBays
  generalize allBays = l
  induction l generalizing s with
  | nil => rfl
  | cons c l ih => rw [List.foldl_cons, ih]; rfl

@[simp] theorem State.mapBays_pacing (s : State) (f : Bay → BayRecord → BayRecord) : (s.mapBays f).pacing = s.pacing := by rw [State.mapBays_eq]
@[simp] theorem State.mapBays_scanner (s : State) (f : Bay → BayRecord → BayRecord) : (s.mapBays f).scanner = s.scanner := by rw [State.mapBays_eq]
@[simp] theorem State.mapBays_share (s : State) (f : Bay → BayRecord → BayRecord) : (s.mapBays f).share = s.share := by rw [State.mapBays_eq]
@[simp] theorem State.mapBays_custody (s : State) (f : Bay → BayRecord → BayRecord) : (s.mapBays f).custody = s.custody := by rw [State.mapBays_eq]
@[simp] theorem State.mapBays_bids (s : State) (f : Bay → BayRecord → BayRecord) : (s.mapBays f).bids = s.bids := by rw [State.mapBays_eq]
@[simp] theorem State.mapBays_lanes (s : State) (f : Bay → BayRecord → BayRecord) : (s.mapBays f).lanes = s.lanes := by rw [State.mapBays_eq]
@[simp] theorem State.mapBays_bus (s : State) (f : Bay → BayRecord → BayRecord) : (s.mapBays f).bus = s.bus := by rw [State.mapBays_eq]
@[simp] theorem State.mapBays_handler (s : State) (f : Bay → BayRecord → BayRecord) : (s.mapBays f).handler = s.handler := by rw [State.mapBays_eq]
@[simp] theorem State.mapBays_startup (s : State) (f : Bay → BayRecord → BayRecord) : (s.mapBays f).startup = s.startup := by rw [State.mapBays_eq]
@[simp] theorem State.mapBays_inputs (s : State) (f : Bay → BayRecord → BayRecord) : (s.mapBays f).inputs = s.inputs := by rw [State.mapBays_eq]
@[simp] theorem State.mapBays_freeCount (s : State) (f : Bay → BayRecord → BayRecord) : (s.mapBays f).freeCount = s.freeCount := by rw [State.mapBays_eq]
@[simp] theorem State.mapBays_pending (s : State) (f : Bay → BayRecord → BayRecord) : (s.mapBays f).pending = s.pending := by rw [State.mapBays_eq]

/-- Whatever every step of an operation over the bays keeps, the whole operation keeps. -/
theorem State.forBays_keeps {P : State → Prop} {f : State → Bay → State} (h : ∀ s b, P s → P (f s b)) {s : State}
    (hs : P s) : P (s.forBays f) := by
  unfold State.forBays
  generalize allBays = l
  induction l generalizing s with
  | nil => exact hs
  | cons b l ih => exact ih (h s b hs)

/-- Two states with the same bay records and the same other components are equal. -/
theorem State.ext_bays {s t : State} (hb : ∀ b, t.bay b = s.bay b) (h : t = { s with bays := t.bays }) : t = s := by
  have : t.bays = s.bays := State.bays_ext hb
  rw [h, this]

/-! ### Sums over the bays -/

theorem sumBays_eq (f : Bay → Nat) : sumBays f = f 0 + f 1 + f 2 + f 3 + f 4 + f 5 + f 6 + f 7 := by
  simp [sumBays, allBays]; omega

theorem sumBays_congr {f g : Bay → Nat} (h : ∀ b, f b = g b) : sumBays f = sumBays g := by
  rw [funext h]

theorem sumBays_le {f g : Bay → Nat} (h : ∀ b, f b ≤ g b) : sumBays f ≤ sumBays g := by
  simp only [sumBays_eq]
  have := h 0; have := h 1; have := h 2; have := h 3; have := h 4; have := h 5; have := h 6; have := h 7
  omega

theorem sumBays_add (f g : Bay → Nat) : sumBays (fun b => f b + g b) = sumBays f + sumBays g := by
  simp only [sumBays_eq]; omega

end Sys2Proof.Machine
end

