-- ==== Sys2Proof/Laws/Charge.lean ====
section
/-! SUPPORT. What the charge controller's and the protection unit's shared operations on a bay record can do, said once:
the move into a stage-off state, the moves between stage-on states, the deciding of a fault, and a bay sample. -/

namespace Sys2Proof.Machine

/-! ### Moves between charge states -/

theorem BayRecord.leaveMaintain_eq (r : BayRecord) :
    r.leaveMaintain = { r with charge := { r.charge with level := r.charge.leftLevel } } := by
  simp only [leaveMaintain, Charge.leftLevel]
  split <;> rfl

theorem BayRecord.endMeasure_eq (r : BayRecord) :
    r.endMeasure = { r with measure := none, prot := r.prot.unmeasured r.measure.isSome } := by
  obtain ⟨_, _, _, _, _, _, _, _, _, _, _, m, _⟩ := r
  cases m <;> rfl

/-- R31, R33, R41, R42, R43, R45, R62: a move into a stage-off state. -/
theorem BayRecord.toOff_eq (r : BayRecord) (st : ChargeState) :
    r.toOff st =
      { r with
        charge := { r.charge.stageOff st with level := r.charge.leftLevel }
        out := r.out.stageOff
        measure := none
        prot := (r.prot.unmeasured r.measure.isSome).unarmed } := by
  simp only [toOff, leaveMaintain_eq, endMeasure_eq]
  rfl

/-- R34: a DETECT entry. -/
theorem BayRecord.toDetect_eq (r : BayRecord) (check : Bool) :
    r.toDetect check =
      { r with
        charge :=
          { r.charge.stageOff .detect with
            level := r.charge.leftLevel, time := 0, exceeded := false, detectTimer := some 500 }
        out := r.out.stageOff
        measure := none
        prot :=
          { (r.prot.unmeasured r.measure.isSome).unarmed with
            mark := (r.prot.unmeasured r.measure.isSome).mark || check } } := by
  simp only [toDetect, toOff_eq]
  rfl

theorem Charge.leftLevel_of_ne {c : Charge} (h : c.state ≠ .maintain) : c.leftLevel = c.level := by
  simp [leftLevel, h]

@[simp] theorem Protection.unmeasured_false (p : Protection) : p.unmeasured false = p := rfl

/-! ### Deciding a fault -/

/-- R69, R70: a fault under WARN writes the last-fault record and clears the runs. -/
theorem BayRecord.decideFault_warn {s : State} {cls : FaultClass} (h : policyOf s.force cls = .warn) (value : Int)
    (r : BayRecord) :
    r.decideFault s cls value =
      { r with prot := { r.prot.clearRuns with
          lastFault := some { cls := cls, uptime := s.pacing.uptime, value := value } } } := by
  simp only [decideFault, h]

/-- R41, R45, R62, R69 to R72, R74: a fault under any other policy. -/
theorem BayRecord.decideFault_faulted {s : State} {cls : FaultClass} (h : policyOf s.force cls ≠ .warn) (value : Int)
    (r : BayRecord) :
    r.Faulted (r.decideFault s cls value) (policyOf s.force cls) (quarantineLimitOf s.force) (retryDelayOf s.force)
      { cls := cls, uptime := s.pacing.uptime, value := value } := by
  obtain ⟨_, _, _, _, _, _, _, ⟨score, count, latched, _, _, _, _, _, _, _, _, _, _⟩, _, _, _, m, _⟩ := r
  cases hp : policyOf s.force cls with
  | warn => exact absurd hp h
  | stop | latch =>
    by_cases hq : quarantineLimitOf s.force ≤ min 15 (score + 2)
    all_goals
      simp only [decideFault, hp, Faulted, Protection.stateAfter, Protection.retriesAfter, Protection.scoreAfter,
        Protection.clearRuns, toOff_eq]
      simp only [hq]
      cases m <;> cases latched <;> rfl
  | retry =>
    by_cases hq : quarantineLimitOf s.force ≤ min 15 (score + 2) <;> by_cases hc : min 3 (count + 1) ≤ 2
    all_goals
      simp only [decideFault, hp, Faulted, Protection.stateAfter, Protection.retriesAfter, Protection.scoreAfter,
        Protection.clearRuns, toOff_eq]
      simp only [hq, hc, ↓reduceIte, decide_true, decide_false, Bool.and_self, Bool.and_false, Bool.false_eq_true]
      cases m <;> cases latched <;> rfl

/-! ### What the units own in a bay record, left alone -/

/-- A bay record with the share that the bid unit and the lane unit write taken from `u` (R1). -/
def BayRecord.withUnits (r u : BayRecord) : BayRecord :=
  { r with
    slot := u.slot
    reservation := u.reservation
    out := { r.out with crosspoint := u.out.crosspoint }
    charge := { r.charge with provisioned := u.charge.provisioned } }

@[simp] theorem BayRecord.withUnits_prot (r u : BayRecord) : (r.withUnits u).prot = r.prot := rfl
@[simp] theorem BayRecord.withUnits_armed (r u : BayRecord) : (r.withUnits u).armed = r.armed := rfl

theorem Charge.addEnergy_provisioned (c : Charge) (flag : Bool) (p : Profile) (mA : Int) (period : Nat) :
    { c with provisioned := flag }.addEnergy p mA period = { c.addEnergy p mA period with provisioned := flag } := by
  obtain ⟨_, level⟩ := c
  unfold Charge.addEnergy
  cases level <;> dsimp only <;> split <;> rfl

theorem BayRecord.meter_withUnits (r u : BayRecord) (p : Profile) (pass : Pass) (mV : Nat) (mA : Int) :
    (r.withUnits u).meter p pass mV mA = (r.meter p pass mV mA).withUnits u := by
  simp only [meter, filterSample, takesReading, withUnits, Charge.addEnergy_provisioned]
  rfl

theorem BayRecord.toTaper_withUnits (r u : BayRecord) : (r.withUnits u).toTaper = r.toTaper.withUnits u := by
  simp only [toTaper, leaveMaintain_eq, endMeasure_eq]; rfl

theorem BayRecord.chargeTests_withUnits (r u : BayRecord) (p : Profile) (tick : Nat) (mA : Int) :
    (r.withUnits u).chargeTests p tick mA = (r.chargeTests p tick mA).withUnits u := by
  simp only [chargeTests, toTaper_withUnits]
  simp only [show (r.withUnits u).charge.state = r.charge.state from rfl,
    show (r.withUnits u).charge.limit = r.charge.limit from rfl,
    show (r.withUnits u).charge.allotted = r.charge.allotted from rfl,
    show (r.withUnits u).charge.lowCount = r.charge.lowCount from rfl,
    show (r.withUnits u).charge.returnCount = r.charge.returnCount from rfl,
    show (r.withUnits u).charge.fullRun = r.charge.fullRun from rfl,
    show (r.withUnits u).charge.highRun = r.charge.highRun from rfl]
  cases r.charge.state <;> dsimp only <;> (repeat' split) <;> rfl

theorem BayRecord.decideFault_withUnits (r u : BayRecord) (s : State) (cls : FaultClass) (value : Int) :
    (r.withUnits u).decideFault s cls value = (r.decideFault s cls value).withUnits u := by
  simp only [decideFault, toOff_eq]
  cases policyOf s.force cls <;> dsimp only <;> (repeat' split) <;> first | rfl | (exfalso; simp_all [withUnits] <;> omega)

theorem BayRecord.countRuns_withUnits (r u : BayRecord) (p : Profile) (mV : Nat) (mA : Int) :
    (r.withUnits u).countRuns p mV mA = (r.countRuns p mV mA).withUnits u := rfl

theorem BayRecord.takeReading_withUnits (r u : BayRecord) (reading : Option Nat) :
    (r.withUnits u).takeReading reading = (r.takeReading reading).withUnits u := by cases reading <;> rfl

theorem BayRecord.faultTests_withUnits (r u : BayRecord) (s : State) (p : Profile) (mV : Nat) (mA : Int)
    (reading : Option Nat) :
    (r.withUnits u).faultTests s p mV mA reading = (r.faultTests s p mV mA reading).withUnits u := by
  simp only [faultTests, takeReading_withUnits, countRuns_withUnits, decideFault_withUnits,
    withUnits_prot, withUnits_armed]
  repeat' split
  all_goals rfl

/-! ### A bay sample -/

/-- A change that leaves the units' share of a record alone, made on two states that differ only there. -/
theorem State.UnitsOnly.modBay {s t : State} (h : s.UnitsOnly t) (b : Bay) {f : BayRecord → BayRecord}
    (hf : ∀ r u : BayRecord, f (r.withUnits u) = (f r).withUnits u) : (s.modBay b f).UnitsOnly (t.modBay b f) := by
  obtain ⟨hb, hq, ht⟩ := h
  refine ⟨fun c => ?_, hq, by rw [ht]; rfl⟩
  rw [State.bay_modBay, State.bay_modBay]
  split
  · rw [show t.bay b = (s.bay b).withUnits (t.bay b) from hb b, hf]
    rfl
  · exact hb c

/-- R25: a bay sample writes into the bay's record what its readers write one after another, but for what the units told of
it may alter. -/
theorem State.unitsOnly_takeSample (s : State) (pass : Pass) (b : Bay) (mV : Nat) (mA : Int) :
    (s.modBay b fun r => ((r.meter (s.profile b) pass mV mA).chargeTests (s.profile b) pass.tick mA).faultTests s
      (s.profile b) mV mA ((s.bay b).readingAt (s.profile b) pass.tick mV mA)).UnitsOnly (s.takeSample pass b mV mA) := by
  have h1 : (s.modBay b (BayRecord.meter (s.profile b) pass mV mA)).UnitsOnly _ := State.unitsOnly_judgeBay _ b
  have h2 := (h1.modBay b fun r u => r.chargeTests_withUnits u (s.profile b) pass.tick mA).trans
    (State.unitsOnly_judgeBay _ b)
  have h3 := (h2.modBay b fun r u => r.faultTests_withUnits u s (s.profile b) mV mA
    ((s.bay b).readingAt (s.profile b) pass.tick mV mA)).trans (State.unitsOnly_afterBay _ b)
  simpa only [State.modBay_modBay, State.takeSample] using h3

end Sys2Proof.Machine
end

