-- ==== Sys2Proof/Laws/Distribution.lean ====
section
/-! SUPPORT. The water-fill and the distribution of the applied ceiling (R51 to R55): what the level found is, what
each tier takes, and what a distribution writes into every bay. -/

namespace Sys2Proof.Machine

/-! ### The level of a water-fill -/

theorem waterLevel_le (total : Nat → Nat) (a n : Nat) : waterLevel total a n ≤ n := by
  induction n with
  | zero => exact Nat.le_refl 0
  | succ n ih =>
    unfold waterLevel
    split
    · exact Nat.le_refl _
    · omega

/-- The level found is within the amount, if level 0 is. -/
theorem waterLevel_fits {total : Nat → Nat} {a : Nat} (h : total 0 ≤ a) (n : Nat) : total (waterLevel total a n) ≤ a := by
  induction n with
  | zero => exact h
  | succ n ih =>
    unfold waterLevel
    split
    · assumption
    · exact ih

/-- The level found is the largest of its range that is within the amount. -/
theorem le_waterLevel {total : Nat → Nat} {a n l : Nat} (hl : l ≤ n) (h : total l ≤ a) : l ≤ waterLevel total a n := by
  induction n with
  | zero => omega
  | succ n ih =>
    unfold waterLevel
    split
    · exact hl
    · rename_i hn
      rcases Nat.lt_or_ge l (n + 1) with h' | h'
      · exact ih (by omega)
      · exact absurd (by rw [show n + 1 = l by omega]; exact h) hn

/-! ### The tiers -/

theorem sum_div_le (k : Bay → Nat) (c : Nat) (h : 0 < sumBays k) : sumBays (fun b => k b * c / sumBays k) ≤ c := by
  have hm : sumBays (fun b => k b * c / sumBays k) * sumBays k ≤ c * sumBays k := by
    have : ∀ b, k b * c / sumBays k * sumBays k ≤ k b * c := fun b => Nat.div_mul_le_self _ _
    have h2 := sumBays_le this
    calc sumBays (fun b => k b * c / sumBays k) * sumBays k
        = sumBays (fun b => k b * c / sumBays k * sumBays k) := by simp only [sumBays_eq]; ring
      _ ≤ sumBays (fun b => k b * c) := h2
      _ = c * sumBays k := by simp only [sumBays_eq]; ring
  exact Nat.le_of_mul_le_mul_right hm h

/-- R52: the keep allotments and what is passed on stay within the ceiling. -/
theorem keepAllotment_sum (demand : Bay → Nat) (c : Nat) :
    sumBays (keepAllotment demand c) + keepRemainder demand c ≤ c := by
  by_cases h : sumBays demand ≤ c
  · have : keepAllotment demand c = demand := funext fun b => by simp [keepAllotment, h]
    rw [this, keepRemainder, if_pos h]
    omega
  · have : keepAllotment demand c = fun b => demand b * c / sumBays demand := funext fun b => by simp [keepAllotment, h]
    rw [this, keepRemainder, if_neg h]
    exact sum_div_le demand c (by omega)

/-- R53: a tier's allotments stay within its remainder. -/
theorem tierAllotment_sum (demand : Bay → Nat) (r : Nat) :
    sumBays (tierAllotment demand (tierLevel demand r)) ≤ r := by
  unfold tierLevel
  split
  · simpa [tierAllotment] using ‹_›
  · exact waterLevel_fits (total := fun l => sumBays fun b => min (demand b) l) (by simp [sumBays_eq]) 1023

/-! ### What a distribution writes -/

/-- The allotments and the allotted limit of a bay are as they were written by the limit's application. -/
theorem BayRecord.applyLimit_allot (s : State) (r : BayRecord) :
    (r.applyLimit s).charge.keep = r.charge.keep ∧ (r.applyLimit s).charge.urgent = r.charge.urgent ∧
    (r.applyLimit s).charge.normal = r.charge.normal ∧ (r.applyLimit s).charge.allotted = r.charge.allotted := by
  unfold BayRecord.applyLimit BayRecord.toOff BayRecord.withLimit BayRecord.toSoftstart BayRecord.leaveMaintain
    BayRecord.endMeasure Charge.clearRuns
  dsimp only
  (repeat' split) <;> simp

/-- R51 to R54: what `divide` writes into a bay. -/
theorem State.divide_charge (s : State) (b : Bay) :
    let keep := keepAllotment s.keepDemand s.share.applied
    let left := keepRemainder s.keepDemand s.share.applied
    let urgent := tierAllotment s.urgentDemand (tierLevel s.urgentDemand left)
    let normal := tierAllotment s.normalDemand (tierLevel s.normalDemand (left - sumBays urgent))
    (s.divide.bay b).charge.keep = keep b ∧ (s.divide.bay b).charge.urgent = urgent b ∧
    (s.divide.bay b).charge.normal = normal b ∧
    (s.divide.bay b).charge.allotted = allottedLimit (s.profile b) (keep b + urgent b + normal b) := by
  simp only [State.divide, State.bay_mapBays, BayRecord.allot]
  refine ⟨?_, ?_, ?_, ?_⟩
  · rw [(BayRecord.applyLimit_allot s _).1]
  · rw [(BayRecord.applyLimit_allot s _).2.1]
  · rw [(BayRecord.applyLimit_allot s _).2.2.1]
  · rw [(BayRecord.applyLimit_allot s _).2.2.2]

theorem sumBays_three {f k u n : Bay → Nat} (h : ∀ b, f b = k b + u b + n b) :
    sumBays f = sumBays k + sumBays u + sumBays n := by
  rw [← sumBays_add, ← sumBays_add]
  exact sumBays_congr h

/-- R53: the allotments that `divide` writes sum to at most the applied ceiling. -/
theorem State.divide_allotted (s : State) : s.divide.allotted ≤ s.share.applied := by
  have h1 := keepAllotment_sum s.keepDemand s.share.applied
  have h2 := tierAllotment_sum s.urgentDemand (keepRemainder s.keepDemand s.share.applied)
  have h3 := tierAllotment_sum s.normalDemand (keepRemainder s.keepDemand s.share.applied -
    sumBays (tierAllotment s.urgentDemand (tierLevel s.urgentDemand (keepRemainder s.keepDemand s.share.applied))))
  have e := sumBays_three fun b => (congrArg₂ _ (congrArg₂ _ (s.divide_charge b).1 (s.divide_charge b).2.1) (s.divide_charge b).2.2.1)
  refine Nat.le_trans (Nat.le_of_eq e) ?_
  omega

/-- Two states that differ only in what the units own have equal allotments. -/
theorem State.UnitsOnly.allotted {s t : State} (h : s.UnitsOnly t) : t.allotted = s.allotted := by
  refine sumBays_congr fun b => ?_
  have hb := (BayRecord.unitsOnly_iff.1 (h.1 b)).2.2.2.2.2.2.2.2.2.2
  rw [hb]

/-- A distribution changes the bays, and what the units told of it own. -/
theorem State.unitsOnly_distribute (s : State) (h : s.running = true) : s.divide.UnitsOnly s.distribute := by
  rw [State.distribute, if_pos h]
  exact State.unitsOnly_afterDistribution _

/-- R51, R53: after a distribution the allotments are within the applied ceiling. -/
theorem State.distribute_allotted (s : State) (h : s.running = true) : s.distribute.allotted ≤ s.share.applied := by
  rw [(s.unitsOnly_distribute h).allotted]
  exact s.divide_allotted

/-! ### The applied ceiling -/

/-- A distribution leaves the share engine as it is. -/
theorem State.distribute_share (s : State) : s.distribute.share = s.share := by
  rw [State.distribute]
  split
  · exact (State.unitsOnly_iff.1 (State.unitsOnly_afterDistribution _)).2.2.2.1.trans (State.mapBays_share _ _)
  · rfl

/-- Moving the ceiling writes it, and touches nothing else of the share engine. -/
theorem State.moveCeiling_share (s : State) (v : Nat) : (s.moveCeiling v).share = { s.share with applied := v } := by
  unfold State.moveCeiling State.lowerCeiling
  split
  · rfl
  · split
    · rfl
    · have : s.share.applied = v := by omega
      rw [← this]

/-- R95, R103: what the completion of an own REPORT leaves in the share engine. -/
theorem State.reportCompleted_share (s : State) (r : OwnReport) :
    (s.reportCompleted r).share = { s.share with
      xt := r.ceiling, sentSeq := r.seq, seq := (r.seq + 1) % 16
      applied := min (r.raise.getD s.share.applied) r.ceiling } := by
  simp only [State.reportCompleted]
  have d (t : State) (n : Nat) : (t.distributeIfChanged n).share = t.share := by
    unfold State.distributeIfChanged; split
    · rfl
    · exact t.distribute_share
  split
  · rw [State.distribute_share, State.moveCeiling_share]; rfl
  · rw [d, State.moveCeiling_share]; rfl

/-- R95: after it the applied ceiling is within the last transmitted one. -/
theorem State.reportCompleted_ceiling (s : State) (r : OwnReport) :
    (s.reportCompleted r).share.applied ≤ (s.reportCompleted r).share.xt := by
  rw [State.reportCompleted_share]
  exact Nat.min_le_right _ _

end Sys2Proof.Machine
end

