-- ==== Sys2Proof/Laws/Entries.lean ====
section
/-! SUPPORT. What the entries that rewrite a whole bay record make of it, said once: the entry into RUN, a RESTART, the entry
into SOFTSTART and the removal of a tablet; and what the receive checks of a frame say. -/

namespace Sys2Proof.Machine

/-! ### Entries that rewrite a bay record -/

/-- R3, R34, R76: a bay record at entry into RUN. -/
theorem BayRecord.enterRun_enteredRun (img : Image) (b : Bay) (r : BayRecord) :
    r.EnteredRun img b (r.enterRun img b) := by
  have fits : populatedOf img b = decide (itemOf img (b.val + 1) = 1) := rfl
  have checks : checkAtDockingOf img = decide (itemOf img 60 = 1) := rfl
  have profile : (r.enterRun img b).profile = bayProfileOf img b := by
    simp only [enterRun, enterCharge, toCleared, toOff_eq, toDetect_eq, secure]
    repeat' split
    all_goals rfl
  refine ⟨fun p h => ?_, ?_⟩
  · rw [profile, bayProfileOf, h]
    exact Fin.ext (by simp)
  · rw [profile]
    obtain ⟨_, _, ⟨present, _⟩, _, _, _, _, ⟨_, _, latched, held, _⟩, _⟩ := r
    simp only [enterRun, fit, fits, checks, enterCharge, toCleared, toOff_eq, toDetect_eq]
    by_cases fitted : itemOf img (b.val + 1) = 1 <;> by_cases check : itemOf img 60 = 1 <;>
      simp only [fitted, check, decide_true, decide_false, not_true, if_true, if_false] <;>
      cases held <;> cases latched <;> cases present <;> rfl

/-- R4, R31, R34, R62, R76: a bay record at a RESTART, its lock apart. -/
theorem BayRecord.restart_eq (check : Bool) (r : BayRecord) :
    let st : ChargeState :=
      if r.charge.state = .disabled ∨ r.charge.state = .faulted ∨ r.charge.state = .quarantined then r.charge.state
      else if r.presence.value then .detect else .empty
    r.restart check =
      { r with
        charge := { r.charge.stageOff st with
          level := none, acc := 0, time := 0, exceeded := false, detectTimer := if st = .detect then some 500 else none }
        out := r.out.stageOff
        prot := { r.prot.unarmed with retryCount := 0, retryTimer := none, mark := decide (st = .detect) && check }
        measure := none } := by
  obtain ⟨_, _, ⟨present, _⟩, _, ⟨st, _⟩, _⟩ := r
  cases st <;> cases present <;> cases check <;> rfl

/-- R29, R62, R63: an entry into SOFTSTART. -/
theorem BayRecord.toSoftstart_eq (s : State) (r : BayRecord) :
    r.toSoftstart s =
      { r with
        charge := { r.charge with state := .softstart, limit := 100, detectTimer := none }
        out := { r.out with stageEnable := true, stageLimit := 100 }
        prot := { r.prot.unarmed with
          retryTimer := none
          blankEnd := some (s.pacing.ticks * 8000 + s.pacing.prescaler + blankEdgesOf s.force) }
        measure := if r.prot.mark = true ∧ r.measure = none then some s.pacing.ticks else r.measure } := by
  obtain ⟨_, _, _, _, _, _, _, ⟨_, _, _, _, _, mark, _⟩, _, _, _, m, _⟩ := r
  cases mark <;> cases m <;> rfl

/-- R15, R31, R33, R43, R62, R75: a bay record at the removal of its tablet. -/
theorem BayRecord.remove_eq (r : BayRecord) :
    r.remove =
      { r with
        charge := { r.charge.stageOff r.afterRemoval with
          level := none, acc := 0, time := 0, exceeded := false, tag := none, departed := r.charge.tag, provisioned := false }
        out := r.out.stageOff
        prot := { (r.prot.unmeasured r.measure.isSome).unarmed with retryCount := 0, retryTimer := none }
        measure := none } := by
  simp only [remove, toOff_eq]
  rfl

/-! ### The receive checks -/

/-- R170: a field's number sent in `w` bits is the field's bits. -/
theorem natBits_eq (w : Nat) (v : BitVec w) : natBits w v.toNat = fieldBits v := by
  have h : ∀ n, natBits n v.toNat = (List.range n).map fun i => v.getLsbD (n - 1 - i) := by
    intro n
    induction n with
    | zero => rfl
    | succ n ih =>
      rw [natBits, ih, List.range_succ_eq_map, List.map_cons, List.map_map]
      simp only [BitVec.testBit_toNat, Nat.add_sub_cancel, Nat.sub_zero, List.cons.injEq, true_and]
      exact List.map_congr_left fun i _ => by simp [show n - (i + 1) = n - 1 - i by omega]
  rw [h, fieldBits]
  exact List.map_congr_left fun i hi => by
    simp [BitVec.getMsbD, List.mem_range.1 hi]

/-- R172: the checks 1 to 5 and 7 to 9. -/
theorem passesChecks_iff (s : State) (f : RxFrame) : f.passesChecks s.startup.node = true ↔ s.Intact f := by
  have crc : crc8 f.covered = crcOf (fieldBits f.cls ++ fieldBits f.key ++ fieldBits f.src ++ fieldBits f.dst ++
      fieldBits f.kind ++ fieldBits f.len ++ f.payload.flatMap fieldBits) := by
    simp only [RxFrame.covered, FrameHeader.bits, RxFrame.header, natBits_eq, crc8, crcOf]
    congr
    funext reg bit
    simp only [crcStep]
    split <;> simp_all
  have known : f.known = true ↔ ∃ kinds, [2, 2, 2, 15, 6, 1, 1, 3][f.cls.toNat]? = some kinds ∧ 1 ≤ f.kind.toNat ∧
      f.kind.toNat ≤ kinds := by
    have count : ∀ c : BitVec 3, [2, 2, 2, 15, 6, 1, 1, 3][c.toNat]? = some (kindCount c) := by decide
    simp [RxFrame.known, count]
  have length : f.lengthFits = true ↔ (f.cls = 1#3 → f.len = 6#4) ∧ (f.cls = 2#3 → f.len = 1#4) ∧
      (f.cls = 5#3 → f.len = 8#4) ∧ (f.cls = 7#3 → f.len = if f.kind = 3#4 then 3#4 else 8#4) := by
    simp only [RxFrame.lengthFits, ← BitVec.toNat_inj, apply_ite BitVec.toNat]
    split <;> simp_all
  have lane : f.laneFits = true ↔
      (f.cls = 2#3 → 1 ≤ f.laneByteLane ∧ f.laneByteLane ≤ 4 ∧ f.laneByteLane = f.key.toNat) := by
    by_cases h : f.cls = 2#3 <;> simp [RxFrame.laneFits, h, and_assoc]
  simp only [RxFrame.passesChecks, State.Intact, Bool.and_eq_true, crc, known, length, lane, bne_iff_ne, beq_iff_eq, ne_eq,
    decide_eq_true_eq, and_assoc]

/-- R172, R179: what becomes of a frame read from the line. -/
theorem route_eq (s : State) (f : RxFrame) :
    (¬ s.Intact f → f.route s.startup.node = .dropped) ∧
    (s.Intact f → f.forUs s.startup.node = false → f.route s.startup.node = .passedOver) ∧
    (s.Intact f → f.forUs s.startup.node = true → f.route s.startup.node = f.handedTo) := by
  rw [← passesChecks_iff]
  simp only [RxFrame.route]
  refine ⟨fun h => ?_, fun h g => ?_, fun h g => ?_⟩ <;> simp_all

end Sys2Proof.Machine
end

