-- ==== Sys2Proof/Laws/Requests.lean ====
section
/-! SUPPORT. What every taken request goes through, said once: its taking, its checks and its bay argument; and the
addition of a release log record. -/

namespace Sys2Proof.Machine

/-! ### The release log -/

theorem State.addRecord_custodyOnly (s : State) (bay : Nat) (kind : RecordKind) (m : Option Node) (q : Option ReqNo)
    (tag : Option Tag) (level : Option Nat) :
    s.addRecord bay kind m q tag level = { s with custody := (s.addRecord bay kind m q tag level).custody } := by
  simp only [State.addRecord]
  split <;> rfl

/-! ### A bay argument -/

theorem bayOf_number (b : Bay) : bayOf (b.val + 1) = some b := by revert b; decide

theorem bayOf_eq_some {n : Nat} {b : Bay} : bayOf n = some b ↔ n = b.val + 1 := by
  constructor
  · intro h
    simp only [bayOf] at h
    split at h
    · cases h; simp; omega
    · cases h
  · rintro rfl; exact bayOf_number b

theorem bayOf_eq_none {n : Nat} : bayOf n = none ↔ n = 0 ∨ 8 < n := by
  simp only [bayOf]
  split <;> simp <;> omega

/-! ### Taking and checking -/

/-- A taken request of kind `k` is acted on with the handler's place for it emptied. -/
theorem State.onTaken_eq {s : State} {q : Request} {k : RequestKind} (h : s.handler.taken = some q) (hk : q.kind = k)
    (f : Request → State → State) : s.onTaken k f = f q { s with handler := { s.handler with taken := none } } := by
  simp only [State.onTaken, h, hk, if_pos]

/-- No request of kind `k` is taken: nothing happens. -/
theorem State.onTaken_none {s : State} {k : RequestKind} (h : ∀ q, s.handler.taken = some q → q.kind ≠ k)
    (f : Request → State → State) : s.onTaken k f = s := by
  simp only [State.onTaken]
  split
  · next q hq => rw [if_neg (h q hq)]
  · rfl

theorem State.confirmOther_custodyOnly (s : State) (k : RequestKind) (src : Node) :
    s.confirmOther k src = { s with custody := (s.confirmOther k src).custody } := by
  simp only [State.confirmOther, State.withConfirmation]
  split
  · rfl
  · split <;> rfl

/-- In RUN the authority table and the settings in force are untouched by the confirmation. -/
theorem State.confirm_startup (s : State) (k : RequestKind) (src : Node) (n : ReqNo) :
    (s.confirm k src n).startup = s.startup := by
  have grant (t : State) (b : Bay) (g : Grant) : (t.grantBay b g).startup = t.startup := by
    simp only [State.grantBay]; split <;> rfl
  have all (t : State) : (t.grantAll src n).startup = t.startup := by
    rw [State.grantAll, (State.unitsOnly_afterAll _).2.2]
    refine State.forBays_keeps (P := fun u => u.startup = t.startup) (fun u b hu => ?_) rfl
    split
    · rw [grant, hu]
    · exact hu
  simp only [State.confirm]
  split_ifs
  · rw [all]; rfl
  all_goals first | rfl | rw [State.confirmOther_custodyOnly]

/-- R183, R184: the checks of a request that passes them. -/
theorem State.checkedOr_admitted {s : State} {q : Request} (hp : s.startup.phase = .run)
    (ha : (s.confirm q.kind q.src q.number).permitted q.kind q.src = true) (hl : q.lengthFits = true)
    (denied owner : State → State) : s.checkedOr q denied owner = owner (s.confirm q.kind q.src q.number) := by
  simp [State.checkedOr, hp, ha, hl]

/-- R183: a request outside RUN. -/
theorem State.checkedOr_notRunning {s : State} (h : s.startup.phase ≠ .run) (q : Request) (denied owner : State → State) :
    s.checkedOr q denied owner = s.refuse q .notRunning := by
  simp [State.checkedOr, h]

end Sys2Proof.Machine
end

