-- ==== Sys2Proof/Tests/Slice0.lean ====
section
/-! SUPPORT. The tests: one ill-formed command for each check of WellFormed, a witness for the hypotheses of each
statement (for each clause, at a boundary value where one exists), and the manual's own worked figures, each one step
on a small state. Expected values come from the chapters' worked sequences and from the rules. -/

open Sys2Proof Sys2Proof.Machine

namespace Sys2Proof.Tests

/-! ### States the tests start from -/

/-- Items 77..84 as a configured shelf holds them: node 11 PANEL, 12 TEACHER, 14 SERVICE, 15 GATEWAY. -/
def badge : Image :=
  [(77, 11), (81, 0), (78, 12), (82, 1), (79, 14), (83, 2), (80, 15), (84, 3)].foldl
    (fun img e => writeItem img e.1 e.2) defaultImage

/-- A shelf in RUN with the settings `img`: node 6, feed class 1, nothing docked, every bay EMPTY. -/
def running (img : Image) : State :=
  { State.reset with
    bays := .replicate 8 { BayRecord.reset with charge := { BayRecord.reset.charge with state := .empty } }
    startup := { State.reset.startup with phase := .run, node := 6, feedClass := 1, image := img }
    pacing := { State.reset.pacing with firstTick := .taken }
    bus := { State.reset.bus with line := .idle, recessive := 12 } }

def run0 : State := running badge

/-- The same shelf in CONFIG, with every bay DISABLED. -/
def cfg0 : State :=
  { State.reset with
    startup := { State.reset.startup with phase := .config, node := 6, feedClass := 1 }
    pacing := { State.reset.pacing with firstTick := .taken }
    bus := { State.reset.bus with line := .idle, recessive := 12 } }

/-- Strap node 0. -/
def inert0 : State := { State.reset with startup := { State.reset.startup with phase := .inert } }

/-- A tablet docked, charging at 1000 mA in state `st`, level 500. -/
def docked (st : ChargeState) (r : BayRecord) : BayRecord :=
  { r with
    presence := { value := true, count := 0 }
    charge := { r.charge with state := st, level := some 500, limit := 1000, allotted := 1000 }
    out := { r.out with stageEnable := true, stageLimit := 1000, voltageSelect := 9000 } }

/-- The handler has taken `q`. -/
def ask (s : State) (q : Request) : State := { s with handler := { s.handler with taken := some q } }

/-- A request of kind `k` from node `src`, number 1. -/
def req (k : RequestKind) (src : Node) (rest : List Byte) : Request :=
  { src := src, dst := 6, kind := k, key := 0, payload := [0, 1] ++ rest, number := 1 }

/-- The pass in progress with the conversion of scan list position `k` ending next. -/
def scanning (s : State) (k : Fin 19) : State :=
  { s with scanner := { s.scanner with pass := some { tick := 0, next := k, period := 10 } } }

/-- Bay 3's voltage conversion ends next, its current code being `current`, the bay as `f` leaves it. -/
def sampling (current : BitVec 12) (f : BayRecord → BayRecord) : State :=
  let s := (scanning run0 5).modBay 2 f
  { s with scanner := { s.scanner with results := s.scanner.results.set 4 (some current) } }

def pass5 : Pass := { tick := 0, next := 5, period := 10 }

/-- A frame with intact checks. -/
def sealed (cls : BitVec 3) (key : Byte) (src dst : Node) (kind : BitVec 4) (payload : List Byte) : RxFrame :=
  sealFrame { cls, key, src, dst, kind } payload

/-! ### WellFormed refuses what it checks -/

/-- A frame of length field `len` with a payload of `n` bytes. -/
def short (len : BitVec 4) (n : Nat) : RxFrame :=
  { cls := 3, key := 0, src := 11, dst := 0, kind := 3, len := len, payload := List.replicate n 0, crc := 0,
    end1 := true, end2 := true }

theorem test_frame_checks : (short 3 3).wellFormed = true ∧ (short 9 0).wellFormed = true ∧
    (short 3 2).wellFormed = false ∧ (short 9 9).wellFormed = false := by decide
theorem test_ill_formed_frames : ∀ i ∈ ([.frameDropped (short 3 2), .framePassedOver (short 3 2), .frameIgnored (short 3 2),
    .reportReceived (short 3 2), .bidReceived (short 3 2), .laneClaimReceived (short 3 2), .laneFreeReceived (short 3 2),
    .requestAccepted (short 3 2), .dispense (short 3 2), .returnTablet (short 3 2)] : List Instr),
    i.wellFormed = false := by decide
theorem test_ill_formed_edge : (Instr.shortDetected 2 8000 0).wellFormed = false ∧
    (Instr.bitError 8000).wellFormed = false ∧ (Instr.transmissionCompleted 8000).wellFormed = false ∧
    (Instr.bitError 7999).wellFormed = true := by decide
theorem test_ill_formed_nodes : (Instr.bidWindowExpiry 0 5).wellFormed = false ∧ (Instr.peerSilent 0).wellFormed = false ∧
    (Instr.peerLost 0).wellFormed = false := by decide

/-! ### The step, resets and start-up: hypotheses met -/

theorem witness_StepRunsFrontCommand :
    ({ run0 with pending := [.openBay, .restart] } : State).pending = .openBay :: [.restart] ∧ State.reset.pending = [] := by
  decide
theorem witness_CommandsAnswerNext : ¬ run0.CanOccur .lineIdle ∧ ¬ run0.CanOccur .openBay :=
  ⟨fun h => absurd h.2 (by decide), fun ⟨_, h, _⟩ => by cases h⟩
theorem witness_ResetsRestoreResetValues : State.reset.startup.phase = .resetting := by decide

def firstDue (s : State) (open_ : BitVec 8) : State :=
  { s with pacing := { s.pacing with firstTick := .due }, inputs := { s.inputs with doorOpen := open_, presence := 5#8 } }
theorem witness_FirstTickSetsLocks :
    (∀ s ∈ [firstDue cfg0 128#8, firstDue cfg0 0#8, firstDue inert0 128#8],
      s.pacing.firstTick = .due) ∧
    (firstDue cfg0 128#8).startup.phase = .config ∧ (firstDue cfg0 128#8).inputs.doorOpen.getLsbD (7 : Bay) = true ∧
    (firstDue cfg0 0#8).inputs.doorOpen = 0#8 ∧ (firstDue inert0 128#8).startup.phase = .inert := by decide

def expiring (first close : Timer) : State := { cfg0 with startup := { cfg0.startup with firstFrame := first, close := close } }
theorem witness_ConfigTimersEnterRun :
    (expiring (some 0) none).startup.phase = .config ∧ (expiring (some 0) none).startup.firstFrame = some 0 ∧
    (expiring none (some 0)).startup.phase = .config ∧ (expiring none (some 0)).startup.close = some 0 := by decide
theorem test_entry_into_run : ∃ t, exec .firstFrameTimerExpiry (expiring (some 0) none) = .next t ∧
    t.startup.phase = .run ∧ t.startup.defaulted = true ∧ t.share.reportTimer = some 250 ∧
    ∀ b, (t.bay b).charge.state = .empty := ⟨_, rfl, by decide⟩
/-- Tablets found in bays 3 and 5, bay 5 held: a DETECT entry with its timer and its check at docking, and a quarantine. -/
theorem test_entry_into_run_docked :
    let found (held : Bool) (r : BayRecord) : BayRecord :=
      { r with presence := { value := true, count := 0 }, prot := { r.prot with held := held, score := 9 } }
    ∃ t, exec .firstFrameTimerExpiry (((expiring (some 0) none).modBay 2 (found false)).modBay 4 (found true)) = .next t ∧
      (t.bay 2).charge.state = .detect ∧ (t.bay 2).charge.detectTimer = some 500 ∧ (t.bay 2).prot.mark = true ∧
      (t.bay 4).charge.state = .quarantined ∧ (t.bay 4).charge.detectTimer = none ∧ (t.bay 4).prot.mark = false ∧
      (t.bay 4).prot.held = false ∧ (t.bay 4).prot.score = 9 := ⟨_, rfl, by decide⟩

/-! ### Ticks -/

theorem witness_TickMovesTimers : run0.startup.phase ≠ .resetting := by decide
/-- A tick that ends a run of `run` edges of a short on every bay. -/
def shorted (run : Nat) : TickInputs := { presence := 0, doorOpen := 0, shortRun := .replicate 8 run }

def counting (presence door : Nat) : State :=
  { (run0.modBay 2 fun r => { r with presence := { value := false, count := presence }, door := { value := false, count := door } })
    with pacing := { run0.pacing with subTicks := 1000 }, scanner := { run0.scanner with divider := 10 } }
theorem witness_DebouncersAndCounts :
    (counting 49 19).startup.phase ≠ .resetting ∧ (counting 49 19).pacing.firstTick = .taken ∧
    ((counting 49 19).bay 2).presence.count < 50 ∧ ((counting 49 19).bay 2).door.count < 20 ∧
    ((counting 50 20).bay 2).presence.count = 50 ∧ ((counting 50 20).bay 2).door.count = 20 ∧
    (counting 50 20).pacing.subTicks = 1000 ∧ (counting 50 20).scanner.pass = none ∧
    (counting 50 20).scanner.divider = scanPeriodOf (counting 50 20).force := by decide

/-- Bay 3 unpopulated in RUN, and the inert state: a change due there is handed to no block (R5, R10). -/
def unheeded (count : Nat) : State := (counting count 20).modBay 2 fun r => { r with populated := false }
def inertDue : State := inert0.modBay 7 fun r => { r with presence := { value := true, count := 50 } }
theorem witness_DebouncersAndCounts_unheeded : (unheeded 50).startup.phase = .run ∧ ((unheeded 50).bay 2).populated = false ∧
    ((unheeded 50).bay 2).presence.count = 50 ∧ ((unheeded 50).bay 2).door.count = 20 ∧ inertDue.startup.phase = .inert ∧
    (inertDue.bay 7).presence.count = 50 := by decide
theorem test_unfitted_door : ∃ t, exec (.doorChange 2) (unheeded 0) = .next t ∧ (t.bay 2).door.value = true ∧
    (t.bay 2).lock.state = .secured ∧ t.custody.log = [] := ⟨_, rfl, by decide⟩

/-! ### Presence and doors -/

def moving (value : Bool) (st : LockState) (f : BayRecord → BayRecord) : State :=
  run0.modBay 2 fun r =>
    let t := f r
    { t with presence := { value := value, count := 50 }, lock := { t.lock with state := st } }

theorem handsOn_of_populated {s : State} {b : Bay} (h : s.startup.phase = .run) (p : (s.bay b).populated = true) :
    s.HandsOn b := .inr ⟨h, p⟩

theorem witness_PresenceAtLock_closed : ((moving true .secured (docked .bulk)).bay 2).presence.count = 50 ∧
    (moving true .secured (docked .bulk)).HandsOn 2 ∧ ((moving true .secured (docked .bulk)).bay 2).lock.state = .secured :=
  ⟨by decide, handsOn_of_populated (by decide) (by decide), by decide⟩
theorem witness_PresenceAtLock_open : ((moving true .forced (docked .bulk)).bay 2).presence.count = 50 ∧
    (moving true .forced (docked .bulk)).HandsOn 2 ∧ ((moving true .forced (docked .bulk)).bay 2).lock.state = .forced :=
  ⟨by decide, handsOn_of_populated (by decide) (by decide), by decide⟩
theorem witness_PresenceMovesCharge_removal : ∀ st ∈ [ChargeState.quarantined, .faulted, .maintain],
    ((moving true .opened (docked st)).bay 2).presence = { value := true, count := 50 } ∧
    (moving true .opened (docked st)).HandsOn 2 ∧ ((moving true .opened (docked st)).bay 2).charge.state ≠ .disabled := by
  intro st h
  simp only [List.mem_cons, List.not_mem_nil, or_false] at h
  rcases h with rfl | rfl | rfl <;> exact ⟨by decide, handsOn_of_populated (by decide) (by decide), by decide⟩
theorem witness_PresenceMovesCharge_docking : ((moving false .opened id).bay 2).presence = { value := false, count := 50 } ∧
    (moving false .opened id).HandsOn 2 ∧ ((moving false .opened id).bay 2).charge.state = .empty ∧
    ((moving false .opened id).bay 2).measure = none :=
  ⟨by decide, handsOn_of_populated (by decide) (by decide), by decide, by decide⟩

/-- Bay 3 with its latched mark, or in CONFIG, with a presence event due. -/
def latchedBay (st : ChargeState) (r : BayRecord) : BayRecord :=
  { r with charge := { r.charge with state := st }, prot := { r.prot with latched := true } }
def cfgMoving : State := cfg0.modBay 2 fun r => { r with presence := { value := true, count := 50 } }
theorem witness_PresenceMovesCharge_kept : (∀ st ∈ [ChargeState.quarantined, .faulted],
    ((moving false .opened (latchedBay st)).bay 2).presence = { value := false, count := 50 } ∧
    (moving false .opened (latchedBay st)).HandsOn 2 ∧ ((moving false .opened (latchedBay st)).bay 2).charge.state = st ∧
    ((moving false .opened (latchedBay st)).bay 2).prot.latched = true) ∧
    (cfgMoving.bay 2).presence.count = 50 ∧ cfgMoving.HandsOn 2 ∧ (cfgMoving.bay 2).charge.state = .disabled := by
  refine ⟨fun st h => ?_, by decide, .inl (by decide), by decide⟩
  simp only [List.mem_cons, List.not_mem_nil, or_false] at h
  rcases h with rfl | rfl <;> exact ⟨by decide, handsOn_of_populated (by decide) (by decide), by decide, by decide⟩
/-- A removal clears the provisioned flag, whatever becomes of an IDENTIFY job of the bay (R15, R16). -/
theorem test_removal_clears_provisioned : ∀ st ∈ [ChargeState.quarantined, .maintain],
    ∃ t, exec (.presenceChange 2) (moving true .opened fun r => { docked st r with
        charge := { (docked st r).charge with provisioned := true }
        slot := some { id := 7, kind := .identify, requester := 15, timeLimit := 10, elapsed := 0, state := .waitLane,
                       lane := none, suspensions := 0, arrival := 3, outcome := none, unread := false } }) = .next t ∧
      (t.bay 2).charge.provisioned = false ∧ (t.bay 2).jobState = some .ended := by
  intro st h
  simp only [List.mem_cons, List.not_mem_nil, or_false] at h
  rcases h with rfl | rfl <;> exact ⟨_, rfl, by decide⟩
/-- A tablet docked in a QUARANTINED bay starts nothing there (R44). -/
theorem test_docking_quarantined : ∃ t, exec (.presenceChange 2) (moving false .opened (latchedBay .quarantined)) = .next t ∧
    (t.bay 2).presence.value = true ∧ (t.bay 2).charge.state = .quarantined ∧ (t.bay 2).charge.detectTimer = none ∧
    (t.bay 2).prot.mark = false := ⟨_, rfl, by decide⟩

/-- Bay 3's door about to be taken as opened (`value` false) or closed, the lock in `st`. -/
def doorway (value : Bool) (st : LockState) : State :=
  run0.modBay 2 fun r => { r with
    door := { value := value, count := 20 }
    lock := { r.lock with
      state := st, baseline := if st.doorOpen then some true else none
      window := if st = .granted then some 0 else none, ajar := if st = .opened then some 0 else none } }
theorem witness_LocksFollowDoorsAndTimers :
    ((doorway false .granted).bay 2).door = { value := false, count := 20 } ∧ (doorway false .granted).HandsOn 2 ∧
    ((doorway false .granted).bay 2).lock.state = .granted ∧ ((doorway false .granted).bay 2).lock.window = some 0 ∧
    ((doorway false .secured).bay 2).door = { value := false, count := 20 } ∧ (doorway false .secured).HandsOn 2 ∧
    ((doorway false .secured).bay 2).lock.state = .secured ∧ ((doorway true .opened).bay 2).lock.state = .opened ∧
    ((doorway true .opened).bay 2).lock.ajar = some 0 :=
  ⟨by decide, handsOn_of_populated (by decide) (by decide), by decide, by decide, by decide,
    handsOn_of_populated (by decide) (by decide), by decide, by decide, by decide⟩
theorem witness_DoorClosesWithRecord : ((doorway true .ajar).bay 2).door = { value := true, count := 20 } ∧
    (doorway true .ajar).HandsOn 2 ∧ ((doorway true .ajar).bay 2).lock.state = .ajar ∧
    ((doorway true .ajar).bay 2).lock.baseline = some true :=
  ⟨by decide, handsOn_of_populated (by decide) (by decide), by decide, by decide⟩

/-- A release log of `n` records. -/
def logged (n : Nat) : State :=
  { run0 with custody := { run0.custody with
      nextNumber := n
      log := (List.range n).map fun k => { number := k, uptime := 0, bay := 1, kind := .opened, requester := none,
                                           request := none, tag := none, level := none } } }
theorem witness_DoorClosesWithRecord_record : (logged 15).custody.log.length < 16 ∧ (logged 16).custody.log.length = 16 := by decide

/-! ### Timers and detectors of a bay -/

def waiting (st : ChargeState) (allotted : Nat) : State :=
  run0.modBay 2 fun r => { r with
    charge := { r.charge with state := st, allotted := allotted, detectTimer := if st = .detect then some 0 else none }
    prot := { r.prot with retryTimer := if st = .retryWait then some 0 else none } }
theorem witness_EnableOrPause : ∀ allotted ∈ [99, 100],
    ((waiting .detect allotted).bay 2).charge.state = .detect ∧ ((waiting .detect allotted).bay 2).charge.detectTimer = some 0 ∧
    ((waiting .retryWait allotted).bay 2).charge.state = .retryWait ∧
    ((waiting .retryWait allotted).bay 2).prot.retryTimer = some 0 ∧
    ((waiting .retryWait allotted).bay 2).charge.allotted = allotted := by decide

/-- A BULK bay whose blank time ends at edge 80,001, at tick 10, with 400 edges already counted. -/
def blanked : State :=
  { (run0.modBay 2 fun r =>
      { docked .bulk r with prot := { r.prot with blankEnd := some 80001, filterCount := 400 } })
    with pacing := { run0.pacing with ticks := 10 } }
theorem witness_ShortDecidesFault : blanked.startup.phase = .run ∧ (blanked.bay 2).charge.state.stageOn = true ∧
    (blanked.bay 2).prot.blankEnd = some 80001 ∧ blanked.pacing.prescaler ≤ 800 ∧
    filterEdgesOf blanked.force ≤ (if 800 ≤ 400 then (blanked.bay 2).prot.filterCount + 800 else 800) ∧
    filterEdgesOf blanked.force ≤ (if 800 ≤ 800 then (blanked.bay 2).prot.filterCount + 800 else 800) ∧
    80001 + filterEdgesOf blanked.force ≤ blanked.pacing.ticks * 8000 + 800 + 1 := by decide

/-- Of 300 edges of a short 50 lie after the blank end; a run of 900 counts to the filter time, 100 µs (R63). -/
theorem test_tick_counts_short : ∃ t u, exec (.tick (shorted 300)) (blanked.modBay 2 fun r => { r with
      prot := { r.prot with blankEnd := some 87951 } }) = .next t ∧ (t.bay 2).prot.filterCount = 50 ∧
    exec (.tick (shorted 900)) blanked = .next u ∧ (u.bay 2).prot.filterCount = 800 ∧ (u.bay 3).prot.filterCount = 0 :=
  ⟨_, _, rfl, by decide, rfl, by decide⟩

def overtime (img : Image) (exceeded : Bool) : State :=
  (running img).modBay 2 fun r =>
    let t := docked .taper r
    { t with charge := { t.charge with time := 14400001, exceeded := exceeded } }
theorem witness_ChargeTimeRaisesNoTaper :
    ((overtime badge false).bay 2).charge.state = .taper ∧ ((overtime badge false).bay 2).charge.exceeded = false ∧
    ((overtime badge false).profile 2).maxChargeTime * 60000 < ((overtime badge false).bay 2).charge.time ∧
    policyOf (overtime badge false).force .noTaper ≠ .warn ∧
    ((overtime (writeItem badge 65 0) false).profile 2).maxChargeTime * 60000 <
      ((overtime (writeItem badge 65 0) false).bay 2).charge.time ∧
    policyOf (overtime (writeItem badge 65 0) false).force .noTaper = .warn ∧
    ((overtime badge true).bay 2).charge.exceeded = true := by decide

/-! ### The scanner and the bay samples -/

def second : State :=
  let s := scanning run0 18
  { s with scanner := { s.scanner with results := s.scanner.results.set 17 (some 1000#12) } }
theorem witness_ConversionsFillTable : (scanning run0 17).startup.phase ≠ .resetting ∧
    (scanning inert0 0).startup.phase = .inert ∧ (scanning inert0 0).scanner.pass = some { tick := 0, next := 0, period := 10 } ∧
    (scanning run0 4).awake = true ∧ (scanning run0 4).scanner.pass = some { tick := 0, next := currentChannel 2, period := 10 } ∧
    (scanning run0 17).scanner.pass = some { tick := 0, next := 17, period := 10 } ∧
    second.awake = true ∧ second.scanner.pass = some { tick := 0, next := 18, period := 10 } ∧
    second.scanner.results[17] = some 1000#12 := by decide

theorem witness_FilteredPower : ∀ enabled ∈ [true, false],
    let s := sampling 4095#12 fun r => { r with filtered := 83824, out := { r.out with stageEnable := enabled } }
    s.Samples 2 pass5 4095#12 ∧ (s.bay 2).out.stageEnable = enabled ∧ (s.bay 2).filtered ≤ 83824 := by
  intro enabled h
  cases enabled <;> exact ⟨⟨by decide, by decide, by decide, by decide⟩, by decide, by decide⟩

/-- A BULK bay with a measurement started 200 ticks before the pass. -/
def measured : State :=
  let s := sampling 2548#12 fun r => { docked .bulk r with measure := some 0 }
  { s with scanner := { s.scanner with pass := some { pass5 with tick := 200 } } }
theorem witness_ConnectorReading : measured.Samples 2 { pass5 with tick := 200 } 2548#12 ∧
    (measured.bay 2).charge.state = .bulk ∧ (measured.bay 2).measure = some 0 ∧ 0 + 200 ≤ 200 :=
  ⟨⟨by decide, by decide, by decide, by decide⟩, by decide, by decide, by decide⟩
/-- 1000 mA at 8700 mV on a 9000 mV profile: 300 mΩ (R30), above the default limit of 250 mΩ (R68). -/
theorem test_connector_reading : ∃ t, exec (.conversionEnd 1740#12) measured = .next t ∧ (t.bay 2).prot.result = some 300 ∧
    (t.bay 2).prot.lastFault = some { cls := .connector, uptime := 0, value := 300 } := ⟨_, rfl, by decide +kernel⟩

/-- A quiet sample of `current` on a bay in `st`, its counts and runs as `f` sets them. -/
def quietly (st : ChargeState) (current : BitVec 12) (f : Charge → Charge) : State :=
  sampling current fun r =>
    let t := docked st r
    { t with charge := f t.charge, notedLimit := 1000 }
/-- A sample that raises no fault is quiet. -/
theorem quiet_of {s : State} {b : Bay} {p : Pass} {mV : Nat} {mA : Int} (h : (s.bay b).sampleFault p
    (s.profile b).voltage (connectorLimitOf s.force) mV mA = none) : s.Quiet b p mV mA := fun _ e => by
  rw [h] at e; cases e
theorem witness_SamplesMoveChargeState_softstart :
    let s := (quietly .softstart 2548#12 fun c => { c with limit := 900 }).modBay 2 fun r => { r with measure := some 0 }
    s.Samples 2 pass5 2548#12 ∧ s.Quiet 2 pass5 9905 (2 * 2548 - 4096) ∧ (s.bay 2).measure = some 0 ∧
    (s.bay 2).charge.state = .softstart ∧ min ((s.bay 2).charge.limit + 100) (s.bay 2).charge.allotted = 1000 :=
  ⟨⟨by decide, by decide, by decide, by decide⟩, quiet_of (by decide), by decide, by decide, by decide⟩
theorem witness_SamplesMoveChargeState_bulk : ∀ low ∈ [48, 49],
    let s := quietly .bulk 2497#12 fun c => { c with lowCount := low }
    s.Samples 2 pass5 2497#12 ∧ s.Quiet 2 pass5 9000 (2 * 2497 - 4096) ∧
    (s.bay 2).charge.state = .bulk ∧ 10 * (2 * 2497 - 4096 : Int) < 9 * ((s.bay 2).charge.limit : Int) ∧
    (s.bay 2).charge.lowCount = low := by
  intro low h
  simp only [List.mem_cons, List.not_mem_nil, or_false] at h
  rcases h with rfl | rfl <;>
    exact ⟨⟨by decide, by decide, by decide, by decide⟩, quiet_of (by decide), by decide, by decide, by decide⟩
def tapering (tick : Nat) : State :=
  { quietly .taper 2048#12 fun c => { c with fullRun := some 0 } with
    scanner := { (quietly .taper 2048#12 id).scanner with pass := some { pass5 with tick := tick } } }
theorem witness_SamplesMoveChargeState_taper : ∀ tick ∈ [59999, 60000],
    (tapering tick).Samples 2 { pass5 with tick := tick } 2048#12 ∧ (tapering tick).Quiet 2 { pass5 with tick := tick } 9000 0 ∧
    ((tapering tick).bay 2).charge.state = .taper ∧ (0 : Int) < ((tapering tick).profile 2).fullCurrent ∧
    ((tapering tick).bay 2).charge.fullRun = some 0 := by
  intro tick h
  simp only [List.mem_cons, List.not_mem_nil, or_false] at h
  rcases h with rfl | rfl <;>
    exact ⟨⟨by decide, by decide, by decide, by decide⟩, quiet_of (by decide), by decide, by decide, by decide⟩
theorem witness_SamplesMoveChargeState_maintain :
    let s := quietly .maintain 2199#12 fun c => { c with level := some 1000 }
    s.Samples 2 pass5 2199#12 ∧ s.Quiet 2 pass5 9000 (2 * 2199 - 4096) ∧
    (s.bay 2).charge.state = .maintain ∧ 2 * ((s.profile 2).fullCurrent : Int) < 2 * 2199 - 4096 :=
  ⟨⟨by decide, by decide, by decide, by decide⟩, quiet_of (by decide), by decide, by decide⟩

/-- Bay 3 at `level` with `acc` in its accumulator, charging at 2000 mA in BULK (03, "Worked figures"). -/
def charging (level acc : Nat) : State :=
  quietly .bulk 3048#12 fun c => { c with level := some level, acc := acc, limit := 2000, allotted := 2000 }
/-- The same with a connector measurement pending. -/
def chargingChecked : State :=
  (charging 999 10790000000000).modBay 2 fun r => { r with notedLimit := 2000, measure := some 0 }
theorem witness_LevelSteps :
    chargingChecked.Samples 2 pass5 3048#12 ∧ chargingChecked.Quiet 2 pass5 9000 (2 * 3048 - 4096) ∧
    (chargingChecked.bay 2).charge.staysBelowFull pass5 (chargingChecked.profile 2).fullCurrent (2 * 3048 - 4096) ∧
    (chargingChecked.bay 2).charge.staysFull pass5 (chargingChecked.profile 2).fullCurrent (2 * 3048 - 4096) ∧
    0 < (chargingChecked.profile 2).capacity ∧ (chargingChecked.bay 2).charge.state.stageOn = true ∧
    (chargingChecked.bay 2).charge.level = some 999 ∧ (999 : Nat) ≤ 999 :=
  ⟨⟨by decide, by decide, by decide, by decide⟩, quiet_of (by decide), fun h => absurd h (by decide),
    fun h => absurd h (by decide), by decide, by decide, by decide, by decide⟩
/-- A full run one tick short of 60 s, and a high-current run that starts. -/
theorem witness_LevelSteps_runs : (tapering 59999).Samples 2 { pass5 with tick := 59999 } 2048#12 ∧
    (tapering 59999).Quiet 2 { pass5 with tick := 59999 } 9000 0 ∧
    ((tapering 59999).bay 2).charge.staysBelowFull { pass5 with tick := 59999 } ((tapering 59999).profile 2).fullCurrent 0 ∧
    ((tapering 59999).bay 2).charge.staysFull { pass5 with tick := 59999 } ((tapering 59999).profile 2).fullCurrent 0 ∧
    ((quietly .maintain 2199#12 id).bay 2).charge.staysFull pass5 150 (2 * 2199 - 4096) :=
  ⟨⟨by decide, by decide, by decide, by decide⟩, quiet_of (by decide), fun _ => .inr (by decide),
    fun h => absurd h (by decide), fun _ => .inr (by decide)⟩
theorem witness_LevelSteps_off : let s := quietly .paused 2048#12 id
    s.Samples 2 pass5 2048#12 ∧ s.Quiet 2 pass5 9000 0 ∧
    (s.bay 2).charge.staysBelowFull pass5 (s.profile 2).fullCurrent 0 ∧
    (s.bay 2).charge.staysFull pass5 (s.profile 2).fullCurrent 0 ∧ (s.bay 2).charge.state.stageOn = false :=
  ⟨⟨by decide, by decide, by decide, by decide⟩, quiet_of (by decide), fun h => absurd h (by decide),
    fun h => absurd h (by decide), by decide⟩
/-- The 706th sample since the TABLET_INFO steps the level from 120 to 121 (03, "Worked figures"). -/
theorem test_level_step : ∃ t, exec (.conversionEnd 1800#12) (charging 120 10786500000000) = .next t ∧
    (t.bay 2).charge.level = some 121 ∧ (t.bay 2).charge.acc = 1800000000 := ⟨_, rfl, by decide⟩
/-- Outside MAINTAIN the level stops at 999 (03, "Worked figures"). -/
theorem test_level_stops : ∃ t, exec (.conversionEnd 1800#12) (charging 999 10790000000000) = .next t ∧
    (t.bay 2).charge.level = some 999 ∧ (t.bay 2).charge.acc = 5300000000 := ⟨_, rfl, by decide⟩

/-- A BULK bay whose `f` counts are one sample short of their runs. -/
def faulting (current : BitVec 12) (f : Protection → Protection) : State :=
  sampling current fun r => { docked .bulk r with prot := f r.prot, measure := some 0 }
theorem witness_SampleRunsRaiseFaults : let s := faulting 2548#12 fun p => { p with overvolt := 2 }
    s.Samples 2 pass5 2548#12 ∧ (s.bay 2).charge.state.stageOn = true ∧
    (s.bay 2).sampleFault pass5 (s.profile 2).voltage (connectorLimitOf s.force) 9905 (2 * 2548 - 4096) =
      some (.overvolt, 9905) ∧ policyOf s.force .overvolt ≠ .warn ∧
    (s.bay 2).charge.staysBelowFull pass5 (s.profile 2).fullCurrent (2 * 2548 - 4096) ∧
    (s.bay 2).sampleFault pass5 (s.profile 2).voltage (connectorLimitOf s.force) 9900 (2 * 2548 - 4096) = none :=
  ⟨⟨by decide, by decide, by decide, by decide⟩, by decide, by decide, by decide, fun h => absurd h (by decide), by decide⟩
theorem witness_SampleRunsRaiseFaults_warn :
    let s := { faulting 1997#12 fun p => { p with backfeed := 2 } with
      startup := { run0.startup with image := writeItem badge 64 0 } }
    s.Samples 2 pass5 1997#12 ∧ (s.bay 2).charge.state.stageOn = true ∧
    (s.bay 2).sampleFault pass5 (s.profile 2).voltage (connectorLimitOf s.force) 9000 (2 * 1997 - 4096) =
      some (.backfeed, -102) ∧ policyOf s.force .backfeed = .warn :=
  ⟨⟨by decide, by decide, by decide, by decide⟩, by decide, by decide, by decide⟩
/-- A full MAINTAIN bay one sample short of OVERVOLT; its measurement, which cannot be taken, ends with NO_READING (R31, R41). -/
def faultingFull : State :=
  (faulting 2548#12 fun p => { p with overvolt := 2 }).modBay 2 fun r =>
    { r with charge := { r.charge with state := .maintain, level := some 1000 } }
theorem witness_SampleRunsRaiseFaults_maintain : faultingFull.Samples 2 pass5 2548#12 ∧
    (faultingFull.bay 2).charge.state = .maintain ∧ (faultingFull.bay 2).charge.level = some 1000 ∧
    (faultingFull.bay 2).measure = some 0 ∧ (faultingFull.bay 2).readingDue pass5 = false ∧
    (faultingFull.bay 2).sampleFault pass5 (faultingFull.profile 2).voltage (connectorLimitOf faultingFull.force) 9905
      (2 * 2548 - 4096) = some (.overvolt, 9905) ∧
    (faultingFull.bay 2).charge.staysBelowFull pass5 (faultingFull.profile 2).fullCurrent (2 * 2548 - 4096) :=
  ⟨⟨by decide, by decide, by decide, by decide⟩, by decide, by decide, by decide, by decide, by decide,
    fun h => absurd h (by decide)⟩
theorem test_fault_leaves_maintain : ∃ t, exec (.conversionEnd 1981#12) faultingFull = .next t ∧
    (t.bay 2).charge.level = some 990 ∧ (t.bay 2).measure = none ∧ (t.bay 2).prot.result = some 65535 :=
  ⟨_, rfl, by decide⟩
/-- A connector reading of 300 mΩ above the limit, under STOP as item 66 (class 6) has it. -/
def badContact (policy : Nat) : State :=
  { measured with startup := { measured.startup with image := writeItem badge 66 policy } }
theorem witness_SampleRunsRaiseFaults_connector : ∀ policy ∈ [0, 1, 2, 3],
    (badContact policy).Samples 2 { pass5 with tick := 200 } 2548#12 ∧
    ((badContact policy).bay 2).sampleFault { pass5 with tick := 200 } ((badContact policy).profile 2).voltage
      (connectorLimitOf (badContact policy).force) 8700 1000 = some (.connector, 300) ∧
    (policyOf (badContact policy).force .connector = .warn ↔ policy = 0) := by
  intro policy h
  simp only [List.mem_cons, List.not_mem_nil, or_false] at h
  rcases h with rfl | rfl | rfl | rfl <;>
    exact ⟨⟨by decide, by decide, by decide, by decide⟩, by decide, by decide⟩

/-! ### Tier demands and the distribution -/

/-- The station of 03, "Worked example: distributing a falling ceiling", before the distribution. -/
def falling (applied : Nat) : State :=
  let img := writeItem (writeItem (writeItem badge 16 2) 26 12000) 27 45
  let job (st : JobState) : Option Job := some
    { id := 7, kind := .update, requester := 15, timeLimit := 10, elapsed := 0, state := st, lane := none, suspensions := 0,
      arrival := 0, outcome := none, unread := false }
  let bay (st : ChargeState) (level : Option Nat) (slot : Option Job) (filtered : Nat) (p : Fin 4) : BayRecord :=
    { BayRecord.reset with
      profile := p, charge := { BayRecord.reset.charge with state := st, level := level }, slot := slot, filtered := filtered }
  { running img with
    bays := #v[bay .maintain (some 1000) none 0 0, bay .maintain (some 1000) (job .connected) 0 0, bay .bulk (some 80) none 0 0,
               bay .bulk none none 0 0, bay .taper (some 850) none 9400 0, bay .bulk (some 450) (job .claiming) 0 0,
               bay .empty none none 0 0, bay .detect none none 0 1]
    share := { (running img).share with applied := applied } }
theorem witness_BayDemands : ((falling 60).bay 3).charge.level = none ∧ ((falling 60).bay 2).charge.level = some 80 ∧
    80 < itemOf (falling 60).force 54 * 10 ∧ ((falling 60).bay 4).charge.level = some 850 ∧
    itemOf (falling 60).force 54 * 10 ≤ 850 := by decide
theorem witness_DistributionFillsTiers : (falling 60).startup.phase = .run ∧ (falling 144).startup.phase = .run ∧
    (let left (c : Nat) := c - sumBays (falling c).keepDemand
     left 60 < sumBays (falling 60).urgentDemand ∧ sumBays (falling 144).urgentDemand ≤ left 144 ∧
     left 144 - sumBays (falling 144).urgentDemand < sumBays (falling 144).normalDemand ∧
     sumBays (falling 200).normalDemand ≤ left 200 - sumBays (falling 200).urgentDemand) := by decide

/-- A bay of 5000 mV, on which 1 W is 200 mA, at 1 W or at none. -/
def thin (st : ChargeState) (applied : Nat) : State :=
  let img := writeItem badge 17 5000
  { (running img).modBay 2 (docked st) with share := { (running img).share with applied := applied } }
/-- The bay of `thin` with a measurement pending, or its connector mark set. -/
def thinMeasured (st : ChargeState) (applied : Nat) (start : Option Nat) : State :=
  (thin st applied).modBay 2 fun r => { r with measure := start, prot := { r.prot with mark := true, overload := 4 } }
theorem witness_DistributionAppliesLimits_measured :
    ((thinMeasured .maintain 0 (some 0)).bay 2).measure = some 0 ∧
    ((thinMeasured .maintain 0 (some 0)).distribute.bay 2).charge.allotted = 0 ∧
    ((thinMeasured .paused 27 none).bay 2).prot.mark = true ∧ ((thinMeasured .paused 27 none).bay 2).measure = none ∧
    200 ≤ ((thinMeasured .paused 27 none).distribute.bay 2).charge.allotted := by decide +kernel
/-- The entry into PAUSED ends the measurement with NO_READING; the resumption makes one pending (R29, R31). -/
theorem test_pause_ends_measurement : let t := (thinMeasured .maintain 0 (some 0)).distribute.bay 2
    t.measure = none ∧ t.prot.result = some 65535 ∧ t.prot.mark = false ∧ t.prot.overload = 0 ∧
    ((thinMeasured .paused 27 none).distribute.bay 2).measure = some 0 := by decide +kernel

/-! ### The cart's power -/

def reportDue (share : Share) (q : List TxEntry) : State :=
  { run0 with share := { share with reportTimer := some 0 }, bus := { run0.bus with txq := q } }
def ownReport (ceiling : Nat) (raise : Option Nat) : OwnReport :=
  { keep := 0, urgent := 0, urgentN := 0, normal := 0, normalN := 0, ceiling := ceiling,
    lanes := #v[false, false, false, false], droop := false, feedClass := 1, seq := 0, raise := raise }
def entry (f : TxFrame) (sending : Bool) : TxEntry := { frame := f, sending := sending, doomed := false }
theorem witness_ReportPeriodTakesFigures : ∀ temps ∈ [none, some (45, 46), some (44, 60)],
    let s := reportDue { Share.reset with temps := temps } []
    s.startup.phase = .run ∧ s.share.reportTimer = some 0 ∧ s.startup.node ≠ 0#4 ∧ s.share.temps = temps := by decide
theorem witness_ReportPeriodSettlesCeiling : let s := reportDue Share.reset [entry (.report (ownReport 40 none)) true]
    s.startup.phase = .run ∧ s.share.reportTimer = some 0 ∧ s.startup.node ≠ 0#4 ∧
    s.bus.txq.find? (·.sending) = some (entry (.report (ownReport 40 none)) true) ∧
    (reportDue Share.reset []).bus.txq.find? (·.sending) = none := by decide
theorem witness_ReportPeriodSettlesCeiling_report :
    let s := reportDue Share.reset (List.replicate 7 (entry (.logEmpty 12 0 0) false))
    let v := reportDue Share.reset (entry (.report (ownReport 40 none)) false :: List.replicate 7 (entry (.logEmpty 12 0 0) false))
    s.bus.muted = false ∧ s.bus.txq.length < 8 ∧ (s.unsent 5).length ≤ 1 ∧ v.unsent 5 ≠ [] ∧ (v.unsent 5).length ≤ 1 ∧
    v.startup.phase = .run ∧ v.share.reportTimer = some 0 ∧ v.startup.node ≠ 0#4 := by decide

/-- Node 1 and its peers in 05, "Worked case: four stations, one derated". -/
def derated : State :=
  let live (k u un n nn x : Nat) : Peer :=
    { Peer.reset with state := .live, keep := k, urgent := u, urgentN := un, normal := n, normalN := nn, ceiling := x }
  { run0 with
    startup := { run0.startup with node := 1 }
    share := { run0.share with
      peers := (((run0.share.peers.set 0 (live 16 135 5 81 3 170)).set 1 (live 10 54 2 162 6 250)).set 2
        (live 0 216 8 0 0 200)).set 3 { Peer.reset with state := .silent, ceiling := 60 } } }
theorem witness_ShareFillsTiers : (derated.peer derated.ownIndex).state = .live := by decide

def report12 : RxFrame := sealed 5 0 12 0 1 (natBytes 8 ({ ownReport 170 none with lanes := #v[true, false, false, false] }).payload)
def peered (st : PeerState) (due : Bool) : State :=
  { run0 with share := { run0.share with peers := run0.share.peers.set 11 { Peer.reset with state := st, due := due } } }
theorem witness_PeerTableFollowsReports :
    (peered .live true).awake = true ∧ (peered .live true).bus.line = .idle ∧ report12.route 6 = .report ∧
    (readReport report12.payload).lanes[0] = true ∧ (readReport report12.payload).lanes[1] = false ∧
    (12#4 ≠ 0#4 ∧ 12#4 ≠ (peered .live true).startup.node) ∧
    ((peered .live true).peer (nodeIndex 12)).due = true ∧ ((peered .live true).peer (nodeIndex 12)).state = .live ∧
    ((peered .silent true).peer (nodeIndex 12)).due = true ∧ ((peered .silent true).peer (nodeIndex 12)).state = .silent := by
  decide +kernel
theorem test_report_heard : ∃ t, exec (.reportReceived report12) run0 = .next t ∧ (t.peer 11).state = .live ∧
    (t.peer 11).ceiling = 170 ∧ t.lanes.table[0] = some { node := 12, bay := none, since := 0 } := ⟨_, rfl, by decide +kernel⟩

/-- A REPORT of node 4 that names lanes 1 and 2. -/
def report4 : RxFrame :=
  sealed 5 0 4 0 1 (natBytes 8 ({ ownReport 170 none with lanes := #v[true, true, false, false] }).payload)

def sagging (warn trip : Nat) : State :=
  let s := scanning run0 16
  { s with share := { s.share with warnRun := warn, tripRun := trip, applied := 100 } }
theorem witness_RailSagLowersCeiling : (sagging 4 0).startup.phase = .run ∧
    (sagging 4 0).scanner.pass = some { tick := 0, next := 16, period := 10 } ∧
    (sagging 4 0).share.warnRun = 4 ∧ (2199#12).toNat < 2200 ∧ (sagging 4 0).share.tripRun ≠ 1 ∧
    (sagging 5 1).share.tripRun = 1 ∧ (2049#12).toNat < 2050 ∧ (sagging 5 1).share.warnRun ≠ 4 ∧
    (sagging 4 1).share.warnRun = 4 ∧ (sagging 4 1).share.tripRun = 1 ∧
    (sagging 3 0).share.warnRun ≠ 4 ∧ (sagging 3 0).share.tripRun ≠ 1 := by decide
/-- 21.99 V counts in the warn run and ends the trip run; 22.00 V ends both (R98). -/
theorem test_rail_runs : ∃ t u, exec (.conversionEnd 2199#12) (sagging 3 1) = .next t ∧
    (t.share.warnRun, t.share.tripRun) = (4, 0) ∧ exec (.conversionEnd 2200#12) (sagging 3 1) = .next u ∧
    (u.share.warnRun, u.share.tripRun) = (0, 0) := ⟨_, _, rfl, by decide, rfl, by decide⟩

/-! ### Taken requests: the checks, and custody -/

theorem witness_RequestsTurnedAway :
    (ask cfg0 (req .openBay 12 [3])).startup.phase = .config ∧ run0.startup.phase = .run ∧
    run0.permitted .openBay 11 = false ∧ run0.permitted .openAll 12 = false ∧ run0.permitted .provision 14 = false ∧
    (req .openBay 11 []).payload.length < 3 ∧ byteAt (req .openBay 11 [0]).payload 2 = 0 ∧
    8 < byteAt (req .openBay 11 [9]).payload 2 ∧ byteAt (req .openBay 11 [8]).payload 2 = (7 : Bay).val + 1 ∧
    run0.permitted .openBay 12 = true ∧ (req .openBay 12 [3, 0]).lengthFits = false := by decide
theorem witness_RequestsTurnedAway_query : let q := req .query 4 [1, 3]
    (ask run0 q).handler.taken = some q ∧ q.kind = .query ∧ q.target = some .bay ∧ run0.startup.phase = .run ∧
    run0.known 4 = false ∧ run0.known 11 = true ∧ (req .query 11 [1]).target = some .bay ∧
    (req .query 11 [1]).lengthFits = false ∧ (req .query 11 [3, 0]).target = some .peers ∧
    (req .query 11 [3, 0]).lengthFits = false ∧ (ask cfg0 (req .query 4 [])).startup.phase = .config ∧
    (req .query 4 []).target = none ∧ (req .query 4 []).lengthFits = false := by decide
theorem test_refused_opening : ∃ t, exec .openBay (ask run0 (req .openBay 11 [3])) = .next t ∧
    t.custody.log.map (fun r => (r.bay, r.kind, r.requester)) = [(3, .refused, some 11)] := ⟨_, rfl, by decide⟩

theorem admits_of {s : State} {q : Request} {k : RequestKind} (h : s.startup.phase = .run ∧ s.handler.taken = some q ∧
    q.kind = k ∧ s.permitted k q.src = true ∧ q.lengthFits = true) : s.Admits q k := h

def unfitted (s : State) : State := s.modBay 2 fun r => { r with populated := false }
def connected : Job :=
  { id := 7, kind := .update, requester := 15, timeLimit := 10, elapsed := 0, state := .connected, lane := some 1,
    suspensions := 0, arrival := 3, outcome := none, unread := false }
theorem witness_OpenBayGrants : ∀ n ∈ [0, 9, 3], (ask run0 (req .openBay 12 [n])).Admits (req .openBay 12 [n]) .openBay := by
  intro n h
  simp only [List.mem_cons, List.not_mem_nil, or_false] at h
  rcases h with rfl | rfl | rfl <;> exact admits_of (by decide)
theorem witness_OpenBayGrants_cases : ((unfitted run0).bay 2).populated = false ∧
    ((doorway true .opened).bay 2).populated = true ∧ ((doorway true .opened).bay 2).lock.state = .opened ∧
    ((run0.modBay 2 fun r => { r with slot := some connected }).bay 2).jobState = some .connected ∧
    run0.authorized 12 .service = false ∧ ((doorway false .granted).bay 2).lock.state = .granted ∧
    ((doorway false .granted).bay 2).jobState = none := by decide

def confirming (n : Nat) : State :=
  { ask run0 (req .openAll 14 []) with custody := { run0.custody with allSource := some 14, allCount := n } }
theorem witness_OpenAllConfirms : (confirming 2).Admits (req .openAll 14 []) .openAll ∧
    (confirming 1).Admits (req .openAll 14 []) .openAll :=
  ⟨admits_of (by decide), admits_of (by decide)⟩
theorem witness_OpenAllConfirms_counts : (confirming 2).custody.allSource = some 14 ∧ (confirming 2).custody.allCount = 2 ∧
    (confirming 2).startup.phase = .run ∧ (req .openBay 14 [3]).kind ≠ .openAll ∧ run0.authorized 12 .service = false := by decide
theorem test_third_open_all : ∃ t, exec .openAll (confirming 2) = .next t ∧ ∀ b, (t.bay b).lock.state = .granted :=
  ⟨_, rfl, by decide +kernel⟩

/-- Bay 3 granted to node 11 for request 5. -/
def granted (st : LockState) : State :=
  (doorway false st).modBay 2 fun r => { r with
    lock := { r.lock with grant := some { reason := .dispense, requester := 11, request := 5 } }
    out := { r.out with latch := st == .granted } }
def bidding (sending : Bool) : State :=
  { (run0.modBay 2 fun r => { docked .bulk r with reservation := some { source := 11, request := 5 } }) with
    bids := [{ source := 11, request := 5, kind := .dispense, bay := 2, score := 100, window := some 0, sending := sending,
               void := false, minLevel := 0, withdrawal := false }] }
theorem witness_WithdrawEndsGrantOrBid : ∀ n ∈ [0, 9, 3],
    (ask (granted .granted) (req .withdraw 11 [n, 0, 5])).Admits (req .withdraw 11 [n, 0, 5]) .withdraw := by
  intro n h
  simp only [List.mem_cons, List.not_mem_nil, or_false] at h
  rcases h with rfl | rfl | rfl <;> exact admits_of (by decide)
theorem witness_WithdrawEndsGrantOrBid_other :
    (ask (granted .granted) (req .withdraw 12 [3, 0, 5])).Admits (req .withdraw 12 [3, 0, 5]) .withdraw ∧
    (ask (bidding false) (req .withdraw 11 [3, 0, 5])).Admits (req .withdraw 11 [3, 0, 5]) .withdraw :=
  ⟨admits_of (by decide), admits_of (by decide)⟩
theorem witness_WithdrawEndsGrantOrBid_sending :
    (ask (bidding true) (req .withdraw 11 [3, 0, 5])).Admits (req .withdraw 11 [3, 0, 5]) .withdraw ∧
    (∃ e, (bidding true).bidFor 11 5 = some e ∧ e.bay = 2 ∧ e.sending = true) ∧
    ((bidding true).bay 2).reservation = some { source := 11, request := 5 } :=
  ⟨admits_of (by decide), ⟨_, rfl, by decide⟩, by decide⟩
theorem witness_WithdrawEndsGrantOrBid_cases : (granted .granted).bidFor 11 5 = none ∧
    ((unfitted run0).bay 2).populated = false ∧ ((granted .granted).bay 2).populated = true ∧
    ((granted .granted).bay 2).lock.grant = some { reason := .dispense, requester := 11, request := 5 } ∧
    BitVec.ofNat 16 (wordAt (req .withdraw 11 [3, 0, 5]).payload 3) = 5#16 ∧ ((granted .opened).bay 2).lock.state ≠ .granted ∧
    ((granted .granted).bay 2).lock.state = .granted ∧
    (∃ e, (bidding false).bidFor 11 5 = some e ∧ e.bay = 2 ∧ e.sending = false) ∧ ((bidding false).bay 2).populated = true ∧
    ((bidding false).bay 2).lock.grant = none :=
  ⟨by decide, by decide, by decide, by decide, by decide, by decide, by decide, ⟨_, rfl, by decide⟩, by decide, by decide⟩

/-! ### Bids -/

/-- Station 1 of 07, "Worked sequence: one DISPENSE across three stations". -/
def offering : State :=
  let free (level : Nat) (st : ChargeState) (r : BayRecord) : BayRecord :=
    let t := docked st r
    { t with charge := { t.charge with level := some level, provisioned := level == 1000 } }
  ((run0.modBay 0 fun r => { free 1000 .maintain r with slot := some connected }).modBay 3 (free 1000 .maintain)).modBay 5
    (free 620 .bulk)
theorem test_dispense_offer : offering.offerDispense 50 = some (3, 245) := by decide
/-- Stations 1 and 2 of 07, "Worked sequence: a tagged RETURN". -/
def returning (departed : Option Tag) : State :=
  (((List.range 7).foldl (fun (s : State) k => if h : k < 8 then s.modBay ⟨k, h⟩ (docked .bulk) else s) run0).modBay 1
    fun _ => run0.bay 1).modBay 2 fun _ =>
      let r := run0.bay 2
      { r with charge := { r.charge with departed := departed }, prot := { r.prot with score := 3 } }
theorem test_return_offer : (returning none).offerReturn (some 0x0004A1C3#32) = some (1, 112) ∧
    (returning (some 0x0004A1C3#32)).offerReturn (some 0x0004A1C3#32) = some (2, 255) := by decide
theorem witness_OffersChooseBay : offering.MayDispense 50 3 ∧ offering.offerDispense 50 = some (3, 245) ∧
    offering.offerDispense 101 = some (3, 245) ∧ run0.offerDispense 0 = none ∧ (returning none).MayReturn 1 ∧
    (returning none).offerReturn none = some (1, 112) ∧ (returning (some 0x0004A1C3#32)).MayReturn 2 ∧
    ((returning (some 0x0004A1C3#32)).bay 2).charge.departed = some 0x0004A1C3#32 ∧
    ∀ b, (offering.bay b).charge.state = .maintain → (offering.bay b).charge.level ≠ none :=
  ⟨⟨by decide, by decide, by decide, by decide, by decide, by decide, by decide⟩, by decide, by decide, by decide,
    ⟨by decide, by decide, by decide, by decide⟩, by decide, ⟨by decide, by decide, by decide, by decide⟩, by decide, by decide⟩

/-- DISPENSE, request 500, minimum level 50 % (07), from node 11; the same with a tag; RETURN with a tag. -/
def dispense500 : RxFrame := sealed 3 0 11 0 3 [1, 244, 50]
def dispenseTag : RxFrame := sealed 3 0 11 0 3 [1, 244, 50, 0, 4, 161, 195]
def return502 : RxFrame := sealed 3 0 11 0 4 [1, 246, 0, 4, 161, 195]
def tagged : State := offering.modBay 3 fun r => { r with
  charge := { r.charge with tag := some 0x0004A1C3#32 }, slot := some { connected with state := .waitLane, lane := none } }
theorem mayBidFor_of {s : State} {f : RxFrame} {k : RequestKind} (h : (s.bus.line = .idle ∨ s.bus.line = .receiving) ∧
    f.route s.startup.node = .request k ∧ s.startup.phase = .run ∧ s.bus.muted = false ∧ s.authorized f.src .panel = true ∧
    s.bidFor f.src (BitVec.ofNat 16 (wordAt f.payload 0)) = none ∧ s.bids.length < 4 ∧ s.bus.txq.length < 8) :
    s.MayBidFor f k := h
theorem witness_BidsArePlaced : offering.MayBidFor dispense500 .dispense ∧ dispense500.payload.length = 3 ∧
    offering.offerDispense (min 100 (byteAt dispense500.payload 2)) = some (3, 245) :=
  ⟨mayBidFor_of (by decide +kernel), by decide, by decide⟩
theorem witness_BidsArePlaced_tagged : tagged.MayBidFor dispenseTag .dispense ∧ dispenseTag.payload.length = 7 ∧
    tagAt dispenseTag.payload 3 = 0x0004A1C3#32 ∧ (tagged.bay 3).charge.tag = some 0x0004A1C3#32 ∧
    (∀ c : Bay, c < 3 → (tagged.bay c).charge.tag ≠ some 0x0004A1C3#32) ∧ tagged.MayDispenseTagged 3 ∧
    (tagged.bay 3).jobState = some .waitLane :=
  ⟨mayBidFor_of (by decide +kernel), by decide, by decide, by decide, by decide,
    ⟨by decide, by decide, by decide, by decide, fun _ h => by cases h; decide, by decide⟩, by decide⟩
theorem witness_BidsArePlaced_return : (returning none).MayBidFor return502 .returnTablet ∧ return502.payload.length = 6 ∧
    ((returning none).bay 1).hasLiveJob = false ∧
    (returning none).offerReturn (some (tagAt return502.payload 2)) = some (1, 112) :=
  ⟨mayBidFor_of (by decide +kernel), by decide, by decide, by decide⟩

/-- A DISPENSE from node 13, which the authority table does not name; a RETURN with a stray byte. -/
def dispense13 : RxFrame := sealed 3 0 13 0 3 [1, 244, 50]
def allDocked : State := { run0 with bays := .replicate 8 (docked .bulk BayRecord.reset) }
def returnStray : RxFrame := sealed 3 0 11 0 4 [1, 246, 0]
theorem witness_BidsArePlaced_passed :
    (∀ s ∈ [offering, cfg0, run0, tagged], ∀ f ∈ [dispense500, dispenseTag, dispense13],
      s.awake = true ∧ s.bus.line = .idle ∧ f.route s.startup.node = .request .dispense) ∧
    return502.route run0.startup.node = .request .returnTablet ∧ returnStray.route run0.startup.node = .request .returnTablet ∧
    cfg0.startup.phase ≠ .run ∧ { run0.bus with muted := true }.muted = true ∧ offering.authorized 13 .panel = false ∧
    (bidding false).bidFor 11 5 ≠ none ∧ returnStray.payload.length = 3 ∧ (tagged.bay 3).charge.tag = some 0x0004A1C3#32 ∧
    (∀ b, ¬ run0.MayDispense 50 b) ∧ (∀ b, (run0.bay b).charge.tag ≠ some 0x0004A1C3#32) ∧
    ∀ b, ¬ allDocked.MayReturn b :=
  ⟨by decide +kernel, by decide +kernel, by decide +kernel, by decide, rfl, by decide, by decide, by decide, by decide,
    fun b h => absurd h.2.1 ((by decide : ∀ b, (run0.bay b).presence.value ≠ true) b), by decide,
    fun b h => absurd h.2.1 ((by decide : ∀ b, (allDocked.bay b).charge.state ≠ .empty) b)⟩
theorem test_dispense_needs_panel : ∃ t, exec (.dispense dispense13) offering = .next t ∧ t.bids = [] ∧ t.bus.txq = [] ∧
    (t.bay 3).reservation = none := ⟨_, rfl, by decide +kernel⟩

/-- Node 1's BID for request 5 of node 11. -/
def ownBid5 : OwnBid :=
  { kind := .dispense, source := 11, request := 5, bay := 3, score := 245, level := some 1000, tagMatch := false }
def bid5 : RxFrame := sealed 1 10 1 0 1 (natBytes 6 ownBid5.payload)
theorem witness_BidsAreWithdrawn : ∀ sending ∈ [true, false],
    (∃ e, (bidding sending).bidFor 11 5 = some e ∧ e.window = some 0 ∧ e.sending = sending) ∧
    (bidding sending).awake = true ∧ (bidding sending).bus.line = .idle := by
  intro sending h
  cases sending <;> exact ⟨⟨_, rfl, by decide⟩, by decide⟩
theorem witness_BidsAreWithdrawn_heard : bid5.route 6 = .bid ∧ readBid bid5.payload = { source := 11, request := 5 } ∧
    run0.bidFor 11 5 = none := by decide +kernel
def forcing (sending : Bool) : State :=
  (bidding sending).modBay 2 fun r => { r with door := { value := false, count := 20 } }
theorem witness_BidsAreWithdrawn_forced : ∀ sending ∈ [true, false],
    ((forcing sending).bay 2).door = { value := false, count := 20 } ∧ (forcing sending).HandsOn 2 ∧
    ((forcing sending).bay 2).lock.state = .secured ∧
    ((forcing sending).bay 2).reservation = some { source := 11, request := 5 } ∧
    ∃ e, (forcing sending).bids.find? (fun x => x.isFor 11 5 && x.bay == 2) = some e ∧ e.source = 11 ∧
      e.request = 5 ∧ e.sending = sending := by
  intro sending h
  cases sending <;>
    exact ⟨by decide, handsOn_of_populated (by decide) (by decide), by decide, by decide,
      ⟨_, rfl, by decide⟩⟩
theorem witness_BidsAreWithdrawn_served : ∀ sending ∈ [true, false], (bidding sending).awake = true ∧
    (∃ e, (bidding sending).bids.find? (fun x => x.isFor 11 5 && x.bay == 2) = some e ∧ (bidding sending).Serves e ∧
      e.sending = sending) ∧
    (bidding sending).MayFault (.chargeTimeExceeded 2) 2 ∧
    ∃ q, (ask (bidding sending) (req .openBay 12 [3])).handler.taken = some q ∧ byteAt q.payload 2 = (2 : Bay).val + 1 := by
  intro sending h
  cases sending <;>
    exact ⟨by decide, ⟨_, rfl, by unfold State.Serves; decide, rfl⟩, .inr (.inl rfl), ⟨_, rfl, by decide⟩⟩
/-- A TABLET_INFO of 20 % ends a QUEUED bid placed for a minimum of 50 % (R142). -/
theorem test_level_ends_bid :
    let s := { bidding false with bids := (bidding false).bids.map fun e => { e with minLevel := 50 } }
    ∃ t, exec .tabletInfo (ask s (req .tabletInfo 15 [3, 0, 4, 161, 195, 20])) = .next t ∧ t.bids = [] ∧
      (t.bay 2).reservation = none := ⟨_, rfl, by decide⟩
/-- A tablet docked in a bay reserved for a RETURN ends the bid (R142). -/
theorem test_docking_ends_return_bid :
    let s := { run0.modBay 2 fun r => { r with
        presence := { value := false, count := 50 }, reservation := some { source := 11, request := 5 } } with
      bids := (bidding true).bids.map fun e => { e with kind := .returnTablet } }
    ∃ t, exec (.presenceChange 2) s = .next t ∧ (t.bay 2).charge.state = .detect ∧ (t.bay 2).reservation = none ∧
      t.bids.map (·.void) = [true] := ⟨_, rfl, by decide⟩

/-! ### Lanes and jobs -/

/-- A bay that a job may be placed on: a tablet docked, in charge state `st`, at `level`. -/
def ready (st : ChargeState) (level : Option Nat) : State :=
  run0.modBay 2 fun r =>
    let t := docked st r
    { t with charge := { t.charge with level := level } }
def provision : Request := req .provision 15 [3, 2, 0, 7, 0]
theorem witness_ProvisionPlacesJob : ∀ s ∈ [ready .bulk (some 299), ready .bulk (some 300), ready .detect none,
    ready .faulted none, run0, doorway true .opened], (ask s provision).Admits provision .provision := by
  intro s h
  simp only [List.mem_cons, List.not_mem_nil, or_false] at h
  rcases h with rfl | rfl | rfl | rfl | rfl | rfl <;> exact admits_of (by decide)
theorem witness_ProvisionPlacesJob_args :
    (ask run0 (req .provision 15 [9, 2, 0, 7, 1])).Admits (req .provision 15 [9, 2, 0, 7, 1]) .provision ∧
    8 < byteAt (req .provision 15 [9, 2, 0, 7, 1]).payload 2 ∧ jobKindOf (byteAt (req .provision 15 [3, 5, 0, 7, 1]).payload 3) = none :=
  ⟨admits_of (by decide), by decide, by decide⟩
theorem witness_ProvisionPlacesJob_cases : let s := ready .bulk (some 299)
    byteAt provision.payload 2 = (2 : Bay).val + 1 ∧ jobKindOf (byteAt provision.payload 3) = some .image ∧
    (s.bay 2).populated = true ∧ (s.bay 2).presence.value = true ∧ (s.bay 2).hasLiveJob = false ∧
    (s.bay 2).lock.state = .secured ∧ s.lanes.arrivals < 4294967295 ∧ s.bus.muted = false ∧
    (s.bay 2).charge.state.stageOn = true ∧ s.levelMet 2 = false ∧ (ready .bulk (some 300)).levelMet 2 = true ∧
    ((ready .detect none).bay 2).charge.state.stageOn = false ∧ ((ready .faulted none).bay 2).charge.state = .faulted ∧
    (run0.bay 2).presence.value = false ∧ ((doorway true .opened).bay 2).lock.state ≠ .secured := by decide

/-- A job of `connected`'s fields that waits in `st`, in bay 3 of `s`, its tablet present. -/
def waitsIn (st : JobState) (s : State) : State :=
  s.modBay 2 fun r => { r with
    presence := { value := true, count := 0 }, slot := some { connected with state := st, lane := none } }
/-- Full current below for 60 s and a third sample over voltage, under RETRY, the minimum for a job being 100 %. -/
def fullFaulting : State :=
  let s := (waitsIn .waitLevel (tapering 60000)).modBay 2 fun r => { r with prot := { r.prot with overvolt := 2 } }
  { s with startup := { s.startup with image := writeItem (writeItem badge 63 2) 25 100 } }
theorem witness_ProvisionPlacesJob_waiting :
    (∀ allotted ∈ [99, 100], ∀ st ∈ [ChargeState.detect, .retryWait],
      let s := waitsIn .queued (waiting st allotted)
      (s.bay 2).slot = some { connected with state := .queued, lane := none } ∧ (s.bay 2).presence.value = true ∧
      (s.bay 2).charge.state = st ∧ (s.bay 2).charge.allotted = allotted) ∧
    (waitsIn .queued (ready .paused none)).startup.phase = .run ∧
    ((waitsIn .queued (ready .paused none)).bay 2).charge.state = .paused := by decide
theorem witness_ProvisionPlacesJob_level :
    fullFaulting.Samples 2 { pass5 with tick := 60000 } 2048#12 ∧ (fullFaulting.bay 2).charge.state = .taper ∧
    (fullFaulting.bay 2).slot = some { connected with state := .waitLevel, lane := none } ∧
    (0 : Int) < (fullFaulting.profile 2).fullCurrent ∧ fullFaulting.levelMet 2 = false ∧
    (let q := req .tabletInfo 15 [3, 0, 4, 161, 195, 30]
     let s := waitsIn .waitLevel (ready .bulk (some 299))
     (ask s q).Admits q .tabletInfo ∧ byteAt q.payload 2 = (2 : Bay).val + 1 ∧ (s.bay 2).populated = true ∧
      s.levelMet 2 = false) :=
  ⟨⟨by decide, by decide, by decide, by decide⟩, by decide, by decide, by decide, by decide, admits_of (by decide), by decide⟩
/-- The lane unit is told of the MAINTAIN entry although the same sample faults the bay into RETRY_WAIT (R47, R152). -/
theorem test_maintain_entry_told : ∃ t, exec (.conversionEnd 2000#12) fullFaulting = .next t ∧
    (t.bay 2).charge.state = .retryWait ∧ (t.bay 2).charge.level = some 990 ∧ t.levelMet 2 = false ∧
    (t.bay 2).slot = some { connected with state := .waitLane, lane := none } := ⟨_, rfl, by decide⟩
/-- A TABLET_INFO of 30 %, the default minimum, ends WAIT_LEVEL (R152). -/
theorem test_level_reached : ∃ t, exec .tabletInfo (ask (waitsIn .waitLevel (ready .bulk (some 299)))
      (req .tabletInfo 15 [3, 0, 4, 161, 195, 30])) = .next t ∧
    (t.bay 2).slot = some { connected with state := .claiming, lane := none } := ⟨_, rfl, by decide⟩

/-- Bay 3 with the job `j`, on lane 2. -/
def working (j : Job) : State :=
  let s := (ready .bulk (some 500)).modBay 2 fun r => { r with
    slot := some j, out := { r.out with crosspoint := j.lane }, charge := { r.charge with keep := 8 } }
  { s with lanes := { s.lanes with
      table := s.lanes.table.set 1 (some { node := 6, bay := some 3, since := 0 }), drive := s.lanes.drive.set 1 true } }
theorem witness_JobsEnd_limit : ((working { connected with elapsed := 600000 }).bay 2).slot = some { connected with elapsed := 600000 } ∧
    connected.state ≠ .ended ∧ 600000 = connected.timeLimit * 60000 := ⟨by decide, by decide, by decide⟩
def undocking : State := (working connected).modBay 2 fun r => { r with presence := { value := true, count := 50 } }
theorem witness_JobsEnd_removal : (undocking.bay 2).presence = { value := true, count := 50 } ∧ undocking.HandsOn 2 ∧
    (undocking.bay 2).charge.state ≠ .disabled ∧ (undocking.bay 2).slot = some connected ∧ connected.state ≠ .ended ∧
    connected.lane = some 1 :=
  ⟨by decide, handsOn_of_populated (by decide) (by decide), by decide, by decide, by decide, by decide⟩
def jobResult : Request := req .jobResult 15 [3, 0, 7, 2]
theorem witness_JobsEnd_result : (ask (working connected) jobResult).Admits jobResult .jobResult ∧
    (ask run0 (req .jobResult 15 [0, 0, 7, 3])).Admits (req .jobResult 15 [0, 0, 7, 3]) .jobResult ∧
    byteAt jobResult.payload 2 = (2 : Bay).val + 1 ∧ byteAt jobResult.payload 5 = 2 ∧
    byteAt (req .jobResult 15 [3, 0, 7, 3]).payload 5 = 3 ∧
    ((working connected).bay 2).slot = some connected ∧ connected.id = BitVec.ofNat 16 (wordAt jobResult.payload 3) ∧
    (run0.bay 2).slot = none :=
  ⟨admits_of (by decide), admits_of (by decide), by decide, by decide, by decide, by decide, by decide, by decide⟩

/-- The part's state `s` with a short seen on bay 3 for the filter time, and the policy of SHORT as item 61 has it. -/
def shorting (policy : Nat) (s : State) : State :=
  { (s.modBay 2 fun r => { r with prot := { r.prot with blankEnd := some 80001, filterCount := 400 } }) with
    pacing := { s.pacing with ticks := 10 }
    startup := { s.startup with image := writeItem badge 61 policy } }
theorem witness_JobsEnd_fault : let s := shorting 1 (working connected)
    s.MayFault (.shortDetected 2 800 800) 2 ∧ (s.bay 2).charge.state.stageOn = true ∧ (s.bay 2).slot = some connected ∧
    connected.lane = some 1 ∧ s.powered 2 = true ∧ s.running = true ∧ s.HasRoom 1 ∧ s.holds 1 = true :=
  ⟨.inl ⟨800, 800, rfl⟩, by decide, by decide, by decide, by decide, by decide,
    ⟨by decide, by decide, by decide⟩, by decide⟩
/-- STOP makes the bay FAULTED; the job ends ABORTED and its lane is freed (R166, R155). -/
theorem test_fault_ends_job : ∃ t, exec (.shortDetected 2 800 800) (shorting 1 (working connected)) = .next t ∧
    (t.bay 2).charge.state = .faulted ∧ (t.bay 2).slot =
      some { connected with state := .ended, outcome := some .aborted, lane := none, unread := true } ∧
    t.bus.txq = [entry (.free 1) false] := ⟨_, rfl, by decide⟩

/-- The applied ceiling made `w` W. -/
def supplied (w : Nat) (s : State) : State := { s with share := { s.share with applied := w, xt := w } }
def queuedJob (claim : Option Claim) : State :=
  let s := (ready .bulk (some 500)).modBay 2 fun r => { r with
    slot := some { connected with state := if claim.isNone then .waitLane else .claiming, lane := none }
    charge := { r.charge with keep := 8 } }
  { s with lanes := { s.lanes with claim := claim } }
def suspended : Job := { connected with state := .suspended, lane := none, suspensions := 2 }
/-- Bay 3 with the job `j`, on lane 2, in MAINTAIN: 2 W and, awake, 8 W of keep demand and no other. -/
def kept (w : Nat) (j : Job) : State :=
  supplied w ((working j).modBay 2 fun r => { r with charge := { r.charge with state := .maintain } })
theorem witness_JobsSuspend : (∀ w ∈ [0, 7, 8], (kept w connected).startup.phase = .run ∧
      ((kept w connected).bay 2).slot = some connected ∧ ((kept w connected).bay 2).presence.value = true ∧
      ((kept w connected).bay 2).charge.state = .maintain ∧ ((kept w connected).profile 2).awakePower = 8 ∧
      ((kept w connected).distribute.bay 2).charge.keep = w) ∧
    ((kept 0 connected).distribute.bay 2).charge.state = .paused ∧
    ((kept 8 connected).distribute.bay 2).charge.state = .maintain ∧ connected.suspensions < 2 ∧
    ¬ suspended.suspensions < 2 ∧ ((kept 8 suspended).distribute.bay 2).charge.keep = 8 ∧
    ((kept 7 suspended).distribute.bay 2).charge.keep = 7 := by decide +kernel
theorem witness_JobsSuspend_room : (kept 0 connected).running = true ∧ (kept 0 connected).HasRoom 4 ∧
    (kept 0 connected).holds 1 = true := ⟨by decide, ⟨by decide, by decide, by decide⟩, by decide⟩
/-- A droop to 0 W suspends the CONNECTED job and frees its lane (R163). -/
theorem test_droop_suspends_job : let t := (kept 0 connected).distribute
    (t.bay 2).slot = some { connected with state := .suspended, lane := none, suspensions := 1 } ∧
    t.bus.txq = [entry (.free 1) false] := by decide +kernel
/-- A claim in MAINTAIN, in phase `ph`, with `w` W. -/
def claiming (w : Nat) (ph : ClaimPhase) : State :=
  supplied w ((queuedJob (some ⟨2, ph⟩)).modBay 2 fun r => { r with charge := { r.charge with state := .maintain } })
theorem witness_JobsSuspend_claiming : ∀ ph ∈ [ClaimPhase.awaitingLane, .claimQueued 1, .settling 1 3],
    ((claiming 0 ph).bay 2).jobState = some .claiming ∧ (claiming 0 ph).lanes.claim = some ⟨2, ph⟩ ∧
    (claiming 0 ph).ready 2 = true ∧ (claiming 0 ph).distribute.ready 2 = false := by decide +kernel
theorem witness_JobsSuspend_fault : let s := shorting 2 (working connected)
    s.MayFault (.shortDetected 2 800 800) 2 ∧ (s.bay 2).charge.state.stageOn = true ∧ (s.bay 2).presence.value = true ∧
    (s.bay 2).slot = some connected :=
  ⟨.inl ⟨800, 800, rfl⟩, by decide, by decide, by decide⟩
theorem witness_JobsSuspend_events : let s := queuedJob (some ⟨2, .settling 1 3⟩)
    (s.bay 2).jobState = some .claiming ∧ s.ready 2 = true ∧
    (shorting 2 s).MayFault (.shortDetected 2 800 800) 2 ∧ (shorting 2 s).ready 2 = true ∧
    (ask s (req .openBay 12 [3])).handler.taken = some (req .openBay 12 [3]) ∧
    byteAt (req .openBay 12 [3]).payload 2 = (2 : Bay).val + 1 :=
  ⟨by decide, by decide, .inl ⟨800, 800, rfl⟩, by decide, by decide, by decide⟩
/-- An OPEN_BAY grant ends the readiness of a CLAIMING bay: its queued CLAIM goes (R159). -/
theorem test_grant_abandons_claim : ∃ t, exec .openBay (ask { queuedJob (some ⟨2, .claimQueued 1⟩) with
      bus := { run0.bus with txq := [entry (.claim 1 2) false] } } (req .openBay 12 [3])) = .next t ∧
    (t.bay 2).jobState = some .waitLane ∧ t.lanes.claim = none ∧ t.bus.txq.map (·.frame.cls) = [4] :=
  ⟨_, rfl, by decide⟩

theorem witness_OldestReadyJobClaims : (queuedJob none).lanes.claim = none ∧
    ((queuedJob none).bay 2).jobState = some .waitLane ∧ (queuedJob none).ready 2 = true := by decide
theorem witness_OldestReadyJobClaims_lane : let s := queuedJob (some ⟨2, .awaitingLane⟩)
    s.lanes.claim = some ⟨2, .awaitingLane⟩ ∧ s.startup.phase = .run ∧ s.bus.muted = false ∧
    s.bus.txq.length < 8 ∧ s.lanes.table[3] = none ∧
    (let u := { s with
      lanes := { s.lanes with table := ((s.lanes.table.set 0 (some ⟨9, none, 0⟩)).set 1 (some ⟨9, none, 0⟩)) }
      inputs := { s.inputs with busy := s.inputs.busy.set 2 true } }
     u.busyLine 3 = false ∧ ∀ z : Lane, z < 3 → u.lanes.table[z] ≠ none ∨ u.busyLine z = true) := by decide

/-- Bay 3's claim on lane 2 settles, with `keep` W allotted, the lane busy or idle. -/
def settled (keep : Nat) (busy : Bool) : State :=
  let s := (queuedJob (some ⟨2, .settling 1 0⟩)).modBay 2 fun r => { r with charge := { r.charge with keep := keep } }
  { s with inputs := { s.inputs with busy := s.inputs.busy.set 1 busy } }
theorem witness_SettleDecidesConnection : (settled 8 false).lanes.claim = some ⟨2, .settling 1 0⟩ ∧
    (∃ j, ((settled 8 false).bay 2).slot = some j) ∧ (settled 8 false).busyLine 1 = false ∧ (settled 8 false).powered 2 = true ∧
    (settled 8 true).busyLine 1 = true ∧ (settled 7 false).powered 2 = false ∧ (settled 7 false).busyLine 1 = false ∧
    (settled 8 false).awake = true ∧ (settled 8 false).bus.muted = false ∧ (settled 8 false).bus.txq.length + 1 ≤ 8 :=
  ⟨by decide, ⟨_, rfl⟩, by decide, by decide, by decide, by decide, by decide, by decide, by decide, by decide⟩
theorem witness_SettleDecidesConnection_free : ∀ busy ∈ [true, false],
    let s := settled 7 busy
    let own := { s with lanes := { s.lanes with table := s.lanes.table.set 1 (some ⟨6, some 3, 0⟩) } }
    own.lanes.claim = some ⟨2, .settling 1 0⟩ ∧ own.running = true ∧ own.HasRoom 1 ∧ own.holds 1 = true ∧
    own.busyLine 1 = busy ∧ own.powered 2 = false := by
  intro busy h
  cases busy <;> exact ⟨by decide, by decide, ⟨by decide, by decide, by decide⟩, by decide, by decide, by decide⟩
theorem test_job_connects : ∃ t, exec .settleExpiry (settled 8 false) = .next t ∧ (t.bay 2).jobState = some .connected ∧
    (t.bay 2).out.crosspoint = some 1 ∧ t.lanes.drive[1] = true ∧ t.lanes.claim = none := ⟨_, rfl, by decide⟩

def claimFrom (m : Node) : RxFrame := sealed 2 2 m 0 1 [0x23#8]
def freeFrom (m : Node) : RxFrame := sealed 2 2 m 0 2 [0x20#8]
theorem witness_LaneFramesHeard : (working connected).awake = true ∧ (working connected).bus.line = .idle ∧
    (freeFrom 9).laneByteLane = (1 : Lane).val + 1 ∧ (freeFrom 9).route 6 = .laneFree ∧
    (∀ m ∈ ([4, 9] : List Node), (claimFrom m).laneByteLane = (1 : Lane).val + 1 ∧ (claimFrom m).route 6 = .laneClaim ∧
      (claimFrom m).src = m) ∧
    (working connected).laneUse 1 = .connected 2 ∧ (settled 8 false).laneUse 1 = .settling 2 ∧ run0.laneUse 1 = .none ∧
    ((working connected).bay 2).slot = some connected ∧ (4 : Node) < 6 ∧ (6 : Node) < 9 ∧ (freeFrom 6).src = 6 := by decide +kernel
/-- A lower node claims the lane a claim settles on, without the awake power allotted: lane 1 is free, or no lane is. -/
theorem witness_LaneFramesHeard_pick : let s := settled 7 false
    let full := { s with lanes := { s.lanes with table := .replicate 4 (some ⟨9, none, 0⟩) } }
    s.laneUse 1 = .settling 2 ∧ (claimFrom 4).src < s.startup.node ∧ s.powered 2 = false ∧ s.startup.phase = .run ∧
    s.bus.muted = false ∧ s.bus.txq.length < 8 ∧ s.lanes.table[0] = none ∧ s.busyLine 0 = false ∧
    full.laneUse 1 = .settling 2 ∧ ∀ y : Lane, full.lanes.table[y] ≠ none := by decide
/-- The claim that gives way picks lane 1 at once, whatever its bay's keep allotment (R157, R160). -/
theorem test_settling_claim_picks_again : ∃ t, exec (.laneClaimReceived (claimFrom 4)) (settled 7 false) = .next t ∧
    t.lanes.claim = some ⟨2, .claimQueued 0⟩ := ⟨_, rfl, by decide +kernel⟩

/-- What a REPORT of a lower node, or of a higher one, does to a lane this station holds, and to one another node holds. -/
theorem witness_PeerTableFollowsReports_lanes : let s := settled 7 false
    let own := { s with lanes := { s.lanes with table := (s.lanes.table.set 1 (some ⟨6, some 3, 0⟩)).set 0 (some ⟨9, none, 0⟩) } }
    report4.route 6 = .report ∧ (readReport report4.payload).lanes = #v[true, true, false, false] ∧ report4.src < run0.startup.node ∧
    own.holds 1 = true ∧ own.laneUse 1 = .settling 2 ∧ own.lanes.table[0] = some ⟨9, none, 0⟩ ∧ report4.src < (9 : Node) ∧
    (working connected).holds 1 = true ∧ (working connected).laneUse 1 = .connected 2 ∧
    run0.startup.node < report12.src ∧ own.lanes.claim = some ⟨2, .settling 1 0⟩ ∧
    ((working connected).bay 2).jobState = some .connected := by decide +kernel
/-- Node 4's REPORT names lanes 1 and 2: the CONNECTED job leaves lane 2 without a LANE FREE (R162). -/
theorem test_report_takes_lane : ∃ t, exec (.reportReceived report4) (working connected) = .next t ∧
    t.lanes.table[1] = some ⟨4, none, 0⟩ ∧ t.lanes.drive[1] = false ∧ (t.bay 2).jobState = some .claiming ∧
    t.bus.txq = [entry (.claim 2 2) false] := ⟨_, rfl, by decide +kernel⟩

/-! ### The cart bus -/

def holding (q : List TxEntry) : State := { run0 with bus := { run0.bus with txq := q } }
theorem witness_TransmitQueueTakesOffers : inert0.awake = false ∧ cfg0.startup.phase = .config ∧
    (TxFrame.hold 9).cls ≠ 4 ∧ run0.startup.phase = .run ∧ run0.bus.muted = false ∧
    (holding [entry (.hold 9) false]).unsent (TxFrame.resume 3).cls ≠ [] ∧ (TxFrame.resume 3).cls = 0 ∧
    (holding (List.replicate 7 (entry (.free 1) false))).bus.txq.length < 8 ∧
    8 ≤ (holding (List.replicate 8 (entry (.free 1) false))).bus.txq.length := by decide

/-- An attempt of `e` in progress, with `behind` queued after it. -/
def attempting (e : TxEntry) (behind : List TxEntry) (s : State) : State :=
  { s with bus := { s.bus with line := .attempt, txq := { e with sending := true } :: behind } }
def dropped : RxFrame := { freeFrom 9 with crc := 0 }
theorem witness_AttemptsAndReceptions : State.reset.bus.line = .gap ∧ cfg0.startup.phase ≠ .resetting ∧
    { cfg0 with bus := { cfg0.bus with line := .gap } }.bus.line = .gap ∧
    (holding [entry (.free 1) false]).awake = true ∧ (holding [entry (.free 1) false]).bus.line = .idle ∧
    (holding [entry (.free 1) false]).bus.txq = [entry (.free 1) false] ∧
    (holding [entry (.free 1) true]).bus.txq.find? (·.sending) = some (entry (.free 1) true) ∧
    (attempting (entry (.free 1) false) [] run0).bus.joined = false ∧ run0.drvEn 0 = false ∧
    dropped.route 6 = .dropped ∧ (sealed 4 0 9 5 1 []).route 6 = .passedOver ∧ (sealed 4 0 9 0 1 []).route 6 = .ignored := by
  decide +kernel
/-- A frame that passes every check, and one that fails its CRC. -/
theorem witness_AttemptsAndReceptions_checks : run0.Intact (freeFrom 9) ∧ ¬ run0.Intact dropped ∧
    run0.Intact (sealed 3 5 12 5 15 []) ∧ run0.startup.node = 6 :=
  ⟨(passesChecks_iff run0 _).1 (by decide +kernel), fun h => absurd ((passesChecks_iff run0 _).2 h) (by decide +kernel),
    (passesChecks_iff run0 _).1 (by decide +kernel), by decide⟩
/-- R172: a frame that fails one of the checks 1 to 5 and 7 to 9, in their order, is dropped. -/
theorem test_failed_checks : ∀ f ∈ [sealed 3 0 9 0 1 (List.replicate 9 0), sealed 3 0 9 0 0 [], sealed 6 0 9 0 2 [],
      sealed 2 2 9 0 1 [0x23#8, 0x00#8], dropped, { freeFrom 9 with end1 := false }, { freeFrom 9 with end2 := false },
      sealed 2 2 6 0 1 [0x23#8], sealed 2 2 0 0 1 [0x23#8], sealed 2 3 9 0 1 [0x23#8], sealed 2 5 9 0 1 [0x53#8]],
    f.route 6 = .dropped := by decide +kernel
theorem witness_AttemptsAndReceptions_lost : let s := attempting (entry (.logEmpty 12 0 0) false) [] run0
    s.bus.line = .attempt ∧ s.bus.txq.find? (·.sending) = some (entry (.logEmpty 12 0 0) true) ∧
    (TxFrame.logEmpty 12 0 0).cls ≠ 0 ∧ (TxFrame.logEmpty 12 0 0).cls ≠ 1 ∧
    (TxFrame.logEmpty 12 0 0).cls ≠ 5 ∧ (entry (.logEmpty 12 0 0) true).doomed = false ∧ (TxFrame.hold 9).cls = 0 ∧
    (attempting (entry (.hold 9) false) [] run0).bus.txq.find? (·.sending) = some (entry (.hold 9) true) := by decide
/-- A FLOW or a REPORT that a newer one has overtaken, and a LANE CLAIM with or without a waiting withdrawal. -/
theorem witness_AttemptsAndReceptions_ended :
    (∀ f ∈ [TxFrame.hold 9, .report (ownReport 40 none)],
      let s := attempting (entry f false) [entry f false] run0
      s.bus.txq.find? (·.sending) = some (entry f true) ∧ (f.cls = 0 ∨ f.cls = 5) ∧ s.unsent f.cls ≠ [] ∧
      s.bus.holding = false) ∧
    ∀ doomed ∈ [true, false],
      (attempting { entry (.claim 1 2) false with doomed := doomed } [] (queuedJob (some ⟨2, .claimQueued 1⟩))).bus.txq.find?
        (·.sending) = some { entry (.claim 1 2) true with doomed := doomed } := by decide
/-- A LANE CLAIM that lost arbitration stays queued (R158); one whose withdrawal waited leaves the queue (R157). -/
theorem test_lost_claims : ∃ t u,
    exec .arbitrationLost (attempting (entry (.claim 1 2) false) [] (queuedJob (some ⟨2, .claimQueued 1⟩))) = .next t ∧
    t.bus.txq = [entry (.claim 1 2) false] ∧
    exec .arbitrationLost (attempting { entry (.claim 1 2) false with doomed := true } [] run0) = .next u ∧ u.bus.txq = [] :=
  ⟨_, _, rfl, by decide, rfl, by decide⟩
/-- A LANE FREE in an attempt: TXD presents its start bit and then its class 2, key 2 and source 6 (R170, R171). -/
theorem test_txd : let s := attempting (entry (.free 1) false) [] run0
    s.drvEn 0 = true ∧ (List.range 16).map (fun k => s.txd k) =
      [false, false, true, false, false, false, false, false, false, false, true, false, false, true, true, false].map some := by
  decide
/-- In an attempt joined at another node's start bit the station drives none and sends from the class field on (R174). -/
theorem test_joined_attempt : ∃ t, exec (.attemptStart true) (holding [entry (.free 1) false]) = .next t ∧
    t.drvEn 0 = false ∧ t.drvEn 1 = true ∧ (List.range 4).map (fun k => t.txd k) = [some true, some false, some true, some false] :=
  ⟨_, rfl, by decide⟩
theorem test_report_replaced : ∃ t,
    exec .arbitrationLost (attempting (entry (.report (ownReport 40 none)) false) [entry (.report (ownReport 50 none)) false] run0) =
      .next t ∧ t.bus.txq = [entry (.report (ownReport 50 none)) false] := ⟨_, rfl, by decide⟩

def bidFrame : TxFrame :=
  .bid { kind := .dispense, source := 11, request := 5, bay := 2, score := 100, level := some 500, tagMatch := false }
/-- The BID of the entry of `bidding` in an attempt; the entry void or not. -/
def bidSent (void : Bool) : State :=
  let s := bidding true
  let b := s.modBay 2 fun r => { r with reservation := if void then none else r.reservation }
  attempting (entry bidFrame false) [] { b with bids := s.bids.map fun e => { e with void := void } }
theorem witness_AttemptsAndReceptions_bid : ∀ void ∈ [true, false],
    (bidSent void).bus.line = .attempt ∧ (bidSent void).bus.txq.find? (·.sending) = some (entry bidFrame true) ∧
    (∃ x, (bidSent void).bidFor 11 5 = some x ∧ x.void = void ∧ x.withdrawal = false ∧ x.bay = 2) ∧
    (∀ y ∈ (bidSent void).bus.txq, y.frame.isBidFor 11 5 = true → y.sending = true) ∧
    ((bidSent void).bay 2).lock.state = .secured ∧
    (void = false → ((bidSent void).bay 2).reservation = some { source := 11, request := 5 }) ∧
    (bidSent void).awake = true ∧ (bidSent void).bus.muted = false ∧ (bidSent void).bus.txq.length < 8 := by
  intro void h
  cases void <;> exact ⟨by decide, by decide, ⟨_, rfl, by decide⟩, by decide, by decide, by decide, by decide⟩
theorem test_winning_bid_grants : ∃ t, exec (.transmissionCompleted 0) (bidSent false) = .next t ∧
    (t.bay 2).lock.state = .granted ∧ t.bids = [] ∧ t.bus.txq = [] := ⟨_, rfl, by decide⟩

def failing (run : Nat) : State :=
  let s := attempting (entry (.free 1) false) [] (working connected)
  { s with bus := { s.bus with errorRun := run } }
/-- The bit error leaves the LANE FREE queued (R174). -/
theorem test_bit_error_keeps_frame : ∃ t, exec (.bitError 0) (failing 1) = .next t ∧ t.bus.errorRun = 2 ∧
    t.bus.txq = [entry (.free 1) false] := ⟨_, rfl, by decide⟩
theorem witness_BitErrorsMute : (failing 1).bus.txq.find? (·.sending) = some (entry (.free 1) true) ∧ (failing 1).bus.line = .attempt ∧ (failing 1).pacing.prescaler ≤ 7999 ∧ (failing 1).bus.errorRun < 2 ∧
    (failing 2).bus.line = .attempt ∧ (failing 2).bus.errorRun = 2 ∧ ((failing 2).bay 2).slot = some connected := by decide

theorem witness_CompletionsTellOwners : let s := attempting (entry (.report (ownReport 40 (some 40))) false) [] run0
    s.bus.line = .attempt ∧ s.bus.txq.find? (·.sending) = some (entry (.report (ownReport 40 (some 40))) true) ∧
    (ownReport 40 (some 40)).raise = some 40 ∧ s.pacing.prescaler ≤ 7999 ∧ (ownReport 40 none).raise = none ∧
    (sagging 0 0).share.applied = 100 := by decide
theorem witness_CompletionsTellOwners_claim : ∀ doomed ∈ [true, false],
    let s := attempting { entry (.claim 1 2) false with doomed := doomed } [] (queuedJob (some ⟨2, .claimQueued 1⟩))
    s.bus.line = .attempt ∧ (s.bus.txq.find? (·.sending)).map (fun e => (e.frame, e.doomed)) = some (.claim 1 2, doomed) ∧
    s.lanes.table[1] = none ∧ s.running = true ∧ s.bus.muted = false ∧ s.bus.txq.length < 8 := by decide
/-- The completion of a LANE CLAIM whose withdrawal waited gives the lane up with a LANE FREE (R157, R155). -/
theorem test_doomed_claim_frees : ∃ t, exec (.transmissionCompleted 0)
      (attempting { entry (.claim 1 2) false with doomed := true } [] run0) = .next t ∧ t.lanes.table[1] = none ∧
    t.bus.txq = [entry (.free 1) false] := ⟨_, rfl, by decide⟩
/-- A REPORT of ceiling 24 completes on a station that has applied 48: it applies 24 (R95, log entry 30). -/
def overApplied : State :=
  let s := attempting (entry (.report (ownReport 24 none)) false) [] run0
  { s with share := { s.share with applied := 48, xt := 48 } }
theorem test_completion_keeps_ceiling : (ownReport 24 none).ceiling < overApplied.share.applied ∧
    ∃ t, exec (.transmissionCompleted 0) overApplied = .next t ∧ t.share.xt = 24 ∧ t.share.applied = 24 :=
  ⟨by decide, _, rfl, by decide⟩

def listening (n : Nat) (holds : Bool) (interval : Timer) : State :=
  { run0 with
    bus := { run0.bus with reqq := List.replicate n (req .fetchLog 12 []), holding := holds, holdCount := 3 }
    handler := { run0.handler with interval := interval } }
def ask7 : RxFrame := sealed 3 5 12 0 1 [0, 1, 3]
theorem witness_RequestsAreQueued : ask7.route 6 = .request .openBay ∧ 2 ≤ ask7.payload.length ∧
    (listening 11 true (some 5)).awake = true ∧ (listening 11 true (some 5)).bus.line = .idle ∧
    (listening 11 true (some 5)).bus.reqq.length + 1 ≤ 12 ∧ (listening 11 true (some 5)).handler.interval ≠ none ∧
    9 ≤ (listening 8 false (some 5)).bus.reqq.length + 1 ∧ (listening 8 false (some 5)).bus.holding = false ∧
    (listening 0 false none).handler.interval = none ∧ (listening 0 false none).handler.taken = none ∧
    12 < (listening 12 true (some 5)).bus.reqq.length + 1 ∧ (listening 12 true (some 5)).bus.txq.length + 2 ≤ 8 ∧
    (∀ n ∈ [11, 12], (listening n true (some 5)).bus.holding = true ∧ (listening n true (some 5)).bus.holdCount = 3 ∧
      (listening n true (some 5)).running = true ∧ (listening n true (some 5)).bus.muted = false) := by
  decide +kernel
/-- The fourth request received while holding, dropped at a full queue: FULL and then HOLD are offered (R181). -/
theorem test_fourth_request_holds_again : ∃ t, exec (.requestAccepted ask7) (listening 12 true (some 5)) = .next t ∧
    t.bus.holdCount = 0 ∧ t.bus.txq = [entry (.hold 12) false, entry (.answer 12 (.full .openBay 1)) false] :=
  ⟨_, rfl, by decide +kernel⟩
theorem test_ninth_request_holds : ∃ t, exec (.requestAccepted ask7) (listening 8 false (some 5)) = .next t ∧
    t.bus.holding = true ∧ t.bus.txq = [entry (.hold 9) false] := ⟨_, rfl, by decide +kernel⟩

theorem witness_HandlerTimersExpire :
    (listening 0 false (some 0)).handler.interval = some 0 ∧ (listening 0 false (some 0)).handler.taken = none ∧
    (listening 0 false (some 0)).bus.reqq = [] ∧
    (listening 4 true (some 0)).bus.reqq = req .fetchLog 12 [] :: List.replicate 3 (req .fetchLog 12 []) ∧
    (listening 5 true (some 0)).bus.reqq = req .fetchLog 12 [] :: List.replicate 4 (req .fetchLog 12 []) ∧
    (listening 4 true (some 0)).running = true ∧ (listening 4 true (some 0)).bus.txq.length < 8 ∧
    { run0 with handler := { run0.handler with summary := some 0 } }.handler.summary = some 0 ∧ run0.startup.phase = .run := by
  decide

/-! ### Taken requests: bays, reads, restart and settings -/

def tabletInfo : Request := req .tabletInfo 15 [3, 0, 4, 161, 195, 101]
theorem witness_RequestsOnBays : (ask (ready .bulk none) tabletInfo).Admits tabletInfo .tabletInfo ∧
    (ask run0 (req .connectorCheck 15 [3])).Admits (req .connectorCheck 15 [3]) .connectorCheck ∧
    (ask run0 (req .connectorCheck 15 [9])).Admits (req .connectorCheck 15 [9]) .connectorCheck ∧
    (∀ m ∈ ([11, 14] : List Node),
      (ask (ready .faulted none) (req .clearFault m [3])).Admits (req .clearFault m [3]) .clearFault ∧
      (ask (ready .quarantined none) (req .clearFault m [3])).Admits (req .clearFault m [3]) .clearFault) := by
  refine ⟨admits_of (by decide), admits_of (by decide), admits_of (by decide), fun m h => ?_⟩
  simp only [List.mem_cons, List.not_mem_nil, or_false] at h
  rcases h with rfl | rfl <;> exact ⟨admits_of (by decide), admits_of (by decide)⟩
theorem witness_RequestsOnBays_cases : byteAt tabletInfo.payload 2 = (2 : Bay).val + 1 ∧ ((ready .bulk none).bay 2).populated = true ∧
    ((ready .bulk none).bay 2).presence.value = true ∧ ((unfitted run0).bay 2).populated = false ∧
    (run0.bay 2).presence.value = false ∧ ((ready .faulted none).bay 2).prot.latched = false ∧
    run0.authorized 12 .teacher = true ∧ run0.authorized 11 .teacher = false ∧ run0.authorized 14 .service = true ∧
    ((ready .faulted none).bay 2).measure = none ∧ ((ready .bulk none).bay 2).charge.state ≠ .faulted := by decide

theorem witness_QueriesAndFetchLog : let q := req .query 11 [1, 8]
    (ask run0 q).handler.taken = some q ∧ q.kind = .query ∧ q.lengthFits = true ∧ run0.startup.phase = .run ∧
    run0.known 11 = true ∧ cfg0.startup.phase = .config ∧ q.target = some .bay ∧ byteAt q.payload 3 = (7 : Bay).val + 1 ∧
    (req .query 11 [5]).target = none ∧ (req .query 11 [5]).lengthFits = true ∧ (req .query 11 [2, 1]).target = some .job ∧
    (req .query 11 [2, 1]).lengthFits = true ∧ byteAt (req .query 11 [2, 9]).payload 3 = 9 ∧ (req .query 11 [3]).target = some .peers ∧
    (req .query 11 [3]).lengthFits = true ∧ (req .query 11 [4]).target = some .shelf ∧ (req .query 11 [4]).lengthFits = true := by
  decide
theorem witness_QueriesAndFetchLog_room : run0.awake = true ∧ run0.bus.muted = false ∧ run0.bus.txq.length + 8 ≤ 8 ∧
    allPeers.filter (fun i => decide ((run0.peer i).state ≠ .absent)) = [] ∧
    allPeers.filter (fun i => decide (((peered .lost false).peer i).state ≠ .absent)) = [11] := by decide
/-- With one place left the first part of a QUERY JOB is sent, the second is dropped, and the unread mark stays (R185). -/
theorem test_query_job_half_sent :
    let s := { (ready .bulk none).modBay 2 fun r => { r with slot := some { connected with state := .ended, unread := true } } with
      bus := { run0.bus with txq := List.replicate 7 (entry (.free 1) false) } }
    ∃ t, exec .queryJob (ask s (req .query 11 [2, 3])) = .next t ∧ t.bus.txq.length = 8 ∧
      (t.bay 2).slot = some { connected with state := .ended, unread := true } := ⟨_, rfl, by decide⟩
theorem witness_QueriesAndFetchLog_fetch :
    (ask (logged 1) (req .fetchLog 11 [])).Admits (req .fetchLog 11 []) .fetchLog ∧
    (ask run0 (req .fetchLog 11 [])).Admits (req .fetchLog 11 []) .fetchLog ∧ run0.custody.log = [] ∧
    (logged 1).custody.log.length = 1 ∧ ¬ (holding (List.replicate 7 (entry (.free 1) false))).bus.txq.length + 2 ≤ 8 :=
  ⟨admits_of (by decide), admits_of (by decide), by decide, by decide, by decide⟩

theorem witness_RestartKeepsCustody : (ask (working connected) (req .restart 14 [])).Admits (req .restart 14 []) .restart ∧
    (ask (granted .granted) (req .restart 14 [])).Admits (req .restart 14 []) .restart ∧
    ((granted .granted).bay 2).lock.state = .granted ∧ (∀ b, ((working connected).bay b).lock.state ≠ .granted) ∧
    ((working connected).bay 2).charge.state ≠ .disabled ∧ ((working connected).bay 2).slot = some connected :=
  ⟨admits_of (by decide), admits_of (by decide), by decide, by decide, by decide, by decide⟩

/-- A RESTART where the queue has room for four frames, and one with the claim of a CLAIMING job settling. -/
theorem witness_RestartKeepsCustody_lanes : let s := ask (working connected) (req .restart 14 [])
    let v := ask (queuedJob (some ⟨2, .settling 1 3⟩)) (req .restart 14 [])
    s.HasRoom 4 ∧ s.running = true ∧ s.holds 1 = true ∧ s.holds 0 = false ∧ connected.lane = some 1 ∧
    v.Admits (req .restart 14 []) .restart ∧ (v.bay 2).jobState = some .claiming ∧
    v.lanes.claim = some ⟨2, .settling 1 3⟩ :=
  ⟨⟨by decide, by decide, by decide⟩, by decide, by decide, by decide, by decide, admits_of (by decide), by decide, by decide⟩
/-- The docked bay is in DETECT with its timer, and the lane of its job is free (R4, R34, R155). -/
theorem test_restart : ∃ t, exec .restart (ask (working connected) (req .restart 14 [])) = .next t ∧
    (t.bay 2).charge.state = .detect ∧ (t.bay 2).charge.detectTimer = some 500 ∧ (t.bay 2).prot.mark = true ∧
    (t.bay 2).out.crosspoint = none ∧ t.lanes.table[(1 : Lane)] = none ∧
    t.bus.txq.map (·.frame) = [.free 1, .answer 14 (.accepted .restart 1)] := ⟨_, rfl, by decide +kernel⟩

theorem wordAt_natBytes (a b : Byte) (n : Nat) (h : n < 65536) : wordAt ([a, b] ++ natBytes 2 n) 2 = n := by
  simp [wordAt, byteAt, natBytes, Nat.mod_eq_of_lt (show n / 256 < 256 by omega)]
  omega
/-- A SETTINGS_CLOSE with the signature `v`. -/
def closing (v : BitVec 16) : Request := req .settingsClose 15 (natBytes 2 v.toNat)
theorem witness_SettingsSealImage_close : let sig := signatureOf cfg0.startup.image
    (ask cfg0 (closing sig)).handler.taken = some (closing sig) ∧ (closing sig).kind = .settingsClose ∧
    (ask cfg0 (closing sig)).startup.phase = .config ∧ (closing sig).payload.length = 4 ∧
    wordAt (closing sig).payload 2 = sig.toNat ∧ (ask cfg0 (closing sig)).startup.image = cfg0.startup.image ∧
    wordAt (closing (~~~sig)).payload 2 ≠ sig.toNat := by
  intro sig
  have read : ∀ v : BitVec 16, wordAt (closing v).payload 2 = v.toNat := fun v => wordAt_natBytes _ _ _ v.isLt
  refine ⟨rfl, rfl, rfl, rfl, read sig, rfl, fun e => ?_⟩
  rw [read, BitVec.toNat_not] at e
  omega
theorem witness_SettingsSealImage : let q := req .settings 15 [85, 0, 49]
    (ask cfg0 q).handler.taken = some q ∧ q.kind = .settings ∧ (ask cfg0 q).startup.phase = .config ∧ q.payload.length = 5 ∧
    1 ≤ byteAt q.payload 2 ∧ byteAt q.payload 2 ≤ 85 ∧ 85 < byteAt (req .settings 15 [86, 0, 49]).payload 2 ∧
    byteAt (req .settings 15 [0, 0, 49]).payload 2 = 0 ∧ (req .settings 15 [85, 0]).payload.length ≠ 5 ∧ (req .settingsClose 15 [1]).payload.length ≠ 4 ∧
    (ask run0 q).startup.phase = .run := by decide
/-- The items are read back in CONFIG (R192; 11, "Worked sequence"). -/
theorem test_settings_read_back : ∃ t, exec .settings (ask cfg0 (req .settings 15 [71, 0, 250])) = .next t ∧
    t.shelfReport.image.map (itemOf · 71) = some 200 ∧ run0.shelfReport.image = none := ⟨_, rfl, by decide⟩
/-- Item 71 sent as 250 is held as 200, and the close timer starts with 10,000 ms (11, "Worked sequence"). -/
theorem test_settings_clamped : ∃ t, exec .settings (ask (expiring (some 16900) none) (req .settings 15 [71, 0, 250])) = .next t ∧
    itemOf t.startup.image 71 = 200 ∧ t.startup.firstFrame = none ∧ t.startup.close = some 10000 := ⟨_, rfl, by decide⟩

/-! ### Encodings and invariants -/

theorem witness_SentFramesReadBack : (6 : Node) ≠ 0#4 ∧ (12 : Node) ≠ 6 ∧ (ownReport 1023 none).ceiling < 1024 ∧
    1 ≤ ownBid5.score ∧ ownBid5.score ≤ 255 ∧ ownBid5.level = some 1000 := by decide
theorem witness_SentFramesReadBack_line : ∃ x, TxFrame.onLine 6 (.hold 9) = some x ∧ x.cls = 0 ∧ x.kind = 1 :=
  ⟨_, rfl, by decide⟩
/-- Record 7 of bay 8, at 65,537 s: FORCED, without requester and tag. -/
def record7 : LogRecord :=
  { number := 7, uptime := 65537, bay := 8, kind := .forced, requester := none, request := none, tag := none, level := some 990 }
theorem witness_SentFramesReadBack_log : record7.number < 65536 ∧ record7.uptime < 4294967296 ∧ record7.bay ≤ 8 ∧
    record7.level = some 990 := by decide
/-- The bits of the LOG parts lie as R173 gives them. -/
theorem test_log_frames : (TxFrame.onLine 6 (.logPart1 12 record7)).map (·.payload) =
      some [0x00#8, 0x07#8, 0x00#8, 0x01#8, 0x00#8, 0x01#8, 0x85#8, 0x00#8] ∧
    (TxFrame.onLine 6 (.logPart2 12 record7)).map (·.payload) =
      some [0x00#8, 0x00#8, 0x00#8, 0x00#8, 0x00#8, 0x00#8, 0x7B#8, 0xC7#8] := by decide
def report9 : OwnReport :=
  { ownReport 180 none with
    keep := 16, urgent := 135, urgentN := 5, normal := 81, normalN := 3, seq := 9, lanes := #v[true, false, false, false] }
/-- The key of a BID of score 245 is 10 (07, "Worked sequence"); a REPORT's bits lie as R173 gives them. -/
theorem test_sent_frames : (TxFrame.onLine 6 (.bid ownBid5)).map (·.key) = some 10#8 ∧
    (TxFrame.onLine 6 (.report report9)).map (·.payload) =
      some [0x04#8, 0x08#8, 0x75#8, 0x14#8, 0x4C#8, 0xB4#8, 0x19#8, 0x20#8] := by decide

def busy : State := { granted .granted with pending := [.attemptStart] }
theorem witness_LocksFitKept : busy.LocksFit ∧ ∃ t, step busy = .next t :=
  ⟨by unfold State.LocksFit; decide, ⟨_, rfl⟩⟩
theorem tagsFit_of {s : State} (h : ∀ b c : Bay, b ≠ c →
    (s.bay b).charge.tag.all (fun v => (s.bay c).charge.tag != some v) = true ∧
    (s.bay b).charge.departed.all (fun v => (s.bay c).charge.departed != some v) = true) : s.TagsFit :=
  fun b c n v => ⟨fun e => by simpa [e] using (h b c n).1, fun e => by simpa [e] using (h b c n).2⟩
/-- Two bays of `working` with different tags. -/
def identified : State :=
  (((working connected).modBay 2 fun r => { r with charge := { r.charge with tag := some 7#32 } }).modBay 4 fun r =>
    { r with charge := { r.charge with departed := some 7#32 } })
theorem witness_ChargeFitsKept : identified.ChargeFits ∧ ∃ t, step identified = .next t :=
  ⟨⟨by unfold State.StagesFit; decide, by unfold State.LevelsFit; decide,
    by unfold State.CountsFit; decide, tagsFit_of (by decide)⟩, ⟨_, rfl⟩⟩
def fullLog : State := { logged 16 with bids := (bidding true).bids, bus := (bidSent false).bus, pending := [.bitError 0] }
theorem witness_CollectionsFitKept : fullLog.CollectionsFit ∧ ∃ t, step fullLog = .next t :=
  ⟨⟨by unfold State.QueuesFit; decide, by unfold State.LogFits; decide, by unfold State.BidsDistinct; decide,
    by unfold State.TransmitFits; decide⟩, ⟨_, rfl⟩⟩
def allotting : State :=
  { (ready .bulk none).modBay 2 fun r => { r with charge := { r.charge with urgent := 27 } } with
    share := { run0.share with applied := 27, xt := 27 } }
theorem witness_AllotmentsFitKept : allotting.AllotmentsFit ∧ ∃ t, step allotting = .next t :=
  ⟨⟨by decide, by decide, by unfold State.CeilingFits; decide⟩, ⟨_, rfl⟩⟩

/-- Bay 3's job is CONNECTED on lane 2, and bay 5 is reserved for a queued bid. -/
def laned : State :=
  { (working connected).modBay 4 fun r => { docked .bulk r with reservation := some { source := 11, request := 5 } } with
    bids := [{ source := 11, request := 5, kind := .dispense, bay := 4, score := 100, window := some 9, sending := false,
               void := false, minLevel := 0, withdrawal := false }]
    pending := [.busyLineChange 1 true] }
theorem lanesFit_of {s : State} (claim : s.lanes.claim = none) (queue : s.bus.txq = []) (run : s.running = true)
    (cross : ∀ b, (s.bay b).out.crosspoint =
      (s.bay b).slot.bind fun j => if j.state = .connected then j.lane else none)
    (lane : ∀ b, (s.bay b).slot.all (fun j => j.state != .connected || j.lane.isSome) = true)
    (one : ∀ b c x, (s.bay b).out.crosspoint = some x → (s.bay c).out.crosspoint = some x → b = c)
    (drive : ∀ x : Lane, s.lanes.drive[x] = true ↔ ∃ b, (s.bay b).out.crosspoint = some x)
    (idle : ∀ b, (s.bay b).jobState ≠ some .claiming)
    (power : ∀ b, (s.bay b).jobState = some .connected → s.powered b = true) : s.LanesFit := by
  refine ⟨fun b x => ?_, fun b j e c n => ?_, one, drive, fun b => ?_, fun b x h => ?_, fun e h => ?_, ?_, ?_, fun h => ?_,
    power⟩
  · rw [cross b]
    cases (s.bay b).slot with
    | none => simp
    | some j => by_cases c : j.state = .connected <;> simp [c]
  · simpa [e, c, n] using lane b
  · simp [claim, idle b]
  · simp [claim] at h
  · simp [queue] at h
  · simp [queue]
  · simp [State.OneAttempt, queue]
  · simp [run] at h
theorem laned_lanesFit : laned.LanesFit :=
  lanesFit_of (by decide) (by decide) (by decide) (by decide) (by decide) (by decide)
    (by decide) (by decide) (by decide)
theorem witness_LanesFitKept : laned.LanesFit ∧ ∃ t, step laned = .next t := ⟨laned_lanesFit, ⟨_, rfl⟩⟩
theorem witness_ReservationsFitKept : laned.ReservationsFit ∧ ∃ t, step laned = .next t := by
  refine ⟨⟨laned_lanesFit, fun b v h => ?_, by unfold State.Serves; decide, by unfold State.BidsDistinct; decide, by decide,
    by decide, by decide, fun b h => absurd h ?_⟩, ⟨_, rfl⟩⟩
  case refine_2 => revert b; decide
  have fits : ∀ b, (laned.bay b).reservation.all (fun v => (laned.bay b).lock.state == .secured && !(laned.bay b).hasLiveJob &&
      laned.bids.any fun e => e.source == v.source && e.request == v.request && e.bay == b && !e.void) = true := by
    decide
  have this := fits b
  simp only [h, Option.all_some, Bool.and_eq_true, List.any_eq_true, beq_iff_eq, Bool.not_eq_true'] at this
  obtain ⟨⟨lock, job⟩, e, mem, ⟨⟨source, request⟩, bay⟩, void⟩ := this
  exact ⟨lock, job, e, mem, source, request, bay, void⟩

/-! ### The water-fills of the chapters' worked figures, which the kernel takes longest over -/

theorem test_distribution_144 : let t := (falling 144).distribute
    (t.bays.toList.map fun r => (r.charge.keep, r.charge.urgent, r.charge.normal)) =
      [(2, 0, 0), (10, 0, 0), (0, 27, 0), (0, 27, 0), (0, 0, 11), (8, 0, 14), (0, 0, 0), (0, 45, 0)] ∧
    (t.bays.toList.map (·.charge.allotted)) = [220, 1110, 3000, 3000, 1220, 2440, 0, 3000] := by decide +kernel
theorem test_distribution_60 : let t := (falling 60).distribute
    (t.bays.toList.map fun r => r.charge.keep + r.charge.urgent + r.charge.normal) = [2, 10, 13, 13, 0, 8, 0, 13] ∧
    (t.bays.toList.map (·.charge.allotted)) = [220, 1110, 1440, 1440, 0, 880, 0, 1080] ∧
    (t.bay 4).charge.state = .paused := by decide +kernel
theorem witness_DistributionAppliesLimits : (thin .maintain 1).startup.phase = .run ∧
    ((thin .maintain 1).bay 2).charge.state = .maintain ∧ ((thin .maintain 1).distribute.bay 2).charge.allotted = 200 ∧
    ((thin .maintain 0).distribute.bay 2).charge.allotted = 0 ∧ ((thin .paused 1).bay 2).charge.state = .paused ∧
    ((thin .paused 1).distribute.bay 2).charge.allotted = 200 ∧ ((thin .paused 0).distribute.bay 2).charge.allotted = 0 ∧
    ((thin .faulted 1).bay 2).charge.state = .faulted := by decide +kernel
theorem test_share_of_four_stations : derated.ownShare 720 = 217 := by decide +kernel

end Sys2Proof.Tests
end

section
/-! Bay samples and the filtered power (R25, R27): what the end of a bay's voltage conversion runs, which readers of a
sample write the filtered power, and the filter's arithmetic. -/

namespace Sys2Proof.Machine

/-! ### The conversion that publishes a bay sample -/

/-- R22: a voltage code in mV, as the statements write it. -/
theorem voltageOf_eq (code : BitVec 12) : voltageOf code = 5 * code.toNat := Nat.mul_comm ..
/-- R22: a current code in mA, as the statements write it. -/
theorem currentOf_eq (code : BitVec 12) : currentOf code = 2 * (code.toNat : Int) - 4096 := by
  unfold currentOf
  omega

@[simp] theorem channelBay_voltageChannel (b : Bay) : channelBay (voltageChannel b) = some b := by revert b; decide
@[simp] theorem voltageChannel_mod_two (b : Bay) : (voltageChannel b).val % 2 = 1 := by revert b; decide
theorem voltageChannel_ne_currentChannel (b c : Bay) : voltageChannel b ≠ currentChannel c := by revert b c; decide

theorem State.phase_ne_resetting_of_awake {s : State} (h : s.awake = true) : s.startup.phase ≠ .resetting := by
  intro hp
  simp [State.awake, hp] at h

@[simp] theorem State.bay_writeCode (s : State) (p : Pass) (code : BitVec 12) (b : Bay) :
    (s.writeCode p code).bay b = s.bay b := rfl

/-- The code of the channel that has just been converted. -/
theorem State.codeAt_writeCode_self (s : State) (p : Pass) (code : BitVec 12) :
    (s.writeCode p code).codeAt p.next = code := by
  simp [State.codeAt, State.writeCode]

/-- The other channels keep their codes. -/
theorem State.codeAt_writeCode_ne (s : State) {p : Pass} (code : BitVec 12) {k : Fin 19} (h : p.next ≠ k) :
    (s.writeCode p code).codeAt k = s.codeAt k := by
  simp [State.codeAt, State.writeCode, Fin.val_ne_of_ne h]

theorem exec_conversionEnd_eq (code : BitVec 12) (s : State) :
    exec (.conversionEnd code) s = execConversionEnd code s := rfl

/-- R21, R25: the end of a bay's voltage conversion publishes the sample made of its two codes. -/
theorem State.Samples.exec_conversionEnd {s : State} {b : Bay} {p : Pass} {current : BitVec 12}
    (h : s.Samples b p current) (code : BitVec 12) :
    exec (.conversionEnd code) s =
      .next ((s.writeCode p code).takeSample p b (5 * code.toNat) (2 * (current.toNat : Int) - 4096)) := by
  obtain ⟨hawake, hpass, hnext, hcurrent⟩ := h
  have hphase : (s.startup.phase != .resetting) = true := by
    simpa using State.phase_ne_resetting_of_awake hawake
  have hv : (s.writeCode p code).codeAt (voltageChannel b) = code := hnext ▸ s.codeAt_writeCode_self p code
  have hc : (s.writeCode p code).codeAt (currentChannel b) = current := by
    rw [s.codeAt_writeCode_ne code (hnext ▸ voltageChannel_ne_currentChannel b b), State.codeAt, hcurrent, Option.getD_some]
  have hpublish : (s.writeCode p code).publish p =
      (s.writeCode p code).takeSample p b (5 * code.toNat) (2 * (current.toNat : Int) - 4096) := by
    simp only [State.publish, hnext, channelBay_voltageChannel, voltageChannel_mod_two, one_ne_zero, ↓reduceIte,
      State.baySample, hv, hc, voltageOf_eq, currentOf_eq]
  rw [exec_conversionEnd_eq]
  simp only [execConversionEnd, hpass, State.when, hphase, hawake, ↓reduceIte, hpublish]

/-! ### Who writes the filtered power -/

@[simp] theorem BayRecord.toOff_filtered (r : BayRecord) (st : ChargeState) : (r.toOff st).filtered = r.filtered := by
  rw [BayRecord.toOff_eq]
@[simp] theorem BayRecord.toBulk_filtered (r : BayRecord) : r.toBulk.filtered = r.filtered := rfl
@[simp] theorem BayRecord.toTaper_filtered (r : BayRecord) : r.toTaper.filtered = r.filtered := by
  simp only [BayRecord.toTaper, BayRecord.leaveMaintain_eq, BayRecord.endMeasure_eq]
  rfl
@[simp] theorem BayRecord.toMaintain_filtered (r : BayRecord) : r.toMaintain.filtered = r.filtered := rfl
@[simp] theorem BayRecord.withLimit_filtered (r : BayRecord) (l : Nat) : (r.withLimit l).filtered = r.filtered := rfl
@[simp] theorem BayRecord.takeReading_filtered (r : BayRecord) (reading : Option Nat) :
    (r.takeReading reading).filtered = r.filtered := by cases reading <;> rfl
@[simp] theorem BayRecord.countRuns_filtered (r : BayRecord) (p : Profile) (mV : Nat) (mA : Int) :
    (r.countRuns p mV mA).filtered = r.filtered := rfl

@[simp] theorem BayRecord.decideFault_filtered (r : BayRecord) (s : State) (cls : FaultClass) (value : Int) :
    (r.decideFault s cls value).filtered = r.filtered := by
  by_cases h : policyOf s.force cls = .warn
  · rw [BayRecord.decideFault_warn h]
  · have hfault := BayRecord.decideFault_faulted h value r
    rw [BayRecord.Faulted] at hfault
    rw [hfault]

/-- The charge controller's tests leave the filtered power alone, whichever charge state they lead to. -/
@[simp] theorem BayRecord.chargeTests_filtered (r : BayRecord) (p : Profile) (tick : Nat) (mA : Int) :
    (r.chargeTests p tick mA).filtered = r.filtered := by
  simp only [BayRecord.chargeTests]
  cases r.charge.state with
  | disabled | empty | detect | paused | retryWait | faulted | quarantined => rfl
  | softstart | bulk | taper | maintain =>
    dsimp only
    repeat' split
    all_goals simp

/-- The protection unit's tests leave the filtered power alone, whatever fault they decide. -/
@[simp] theorem BayRecord.faultTests_filtered (r : BayRecord) (s : State) (p : Profile) (mV : Nat) (mA : Int)
    (reading : Option Nat) : (r.faultTests s p mV mA reading).filtered = r.filtered := by
  unfold BayRecord.faultTests
  dsimp only
  repeat' split
  all_goals simp

@[simp] theorem BayRecord.meter_filtered (r : BayRecord) (p : Profile) (pass : Pass) (mV : Nat) (mA : Int) :
    (r.meter p pass mV mA).filtered =
      if r.out.stageEnable then (15 * r.filtered + samplePower mV mA) / 16 else 0 := rfl

/-- R27: after a bay sample the filtered power is the filter's step, or 0 with the stage off. -/
theorem State.takeSample_filtered (s : State) (pass : Pass) (b : Bay) (mV : Nat) (mA : Int) :
    ((s.takeSample pass b mV mA).bay b).filtered =
      if (s.bay b).out.stageEnable then (15 * (s.bay b).filtered + samplePower mV mA) / 16 else 0 := by
  obtain ⟨hbays, -⟩ := s.unitsOnly_takeSample pass b mV mA
  obtain ⟨-, -, -, -, -, -, hfiltered, -⟩ := BayRecord.unitsOnly_iff.1 (hbays b)
  rw [hfiltered, State.bay_modBay_self, BayRecord.faultTests_filtered, BayRecord.chargeTests_filtered,
    BayRecord.meter_filtered]

/-! ### The filter's arithmetic -/

/-- R22, R27: the sample power is that of the largest codes, 20475 mV and 4094 mA, at most. -/
theorem samplePower_le (voltage current : BitVec 12) :
    samplePower (5 * voltage.toNat) (2 * (current.toNat : Int) - 4096) ≤ 83824 := by
  have hmV : 5 * voltage.toNat ≤ 20475 := by have := voltage.isLt; omega
  have hmA : (2 * (current.toNat : Int) - 4096).toNat ≤ 4094 := by have := current.isLt; omega
  unfold samplePower
  split
  · calc 5 * voltage.toNat * (2 * (current.toNat : Int) - 4096).toNat / 1000
      _ ≤ 20475 * 4094 / 1000 := Nat.div_le_div_right (Nat.mul_le_mul hmV hmA)
      _ = 83824 := rfl
  · exact Nat.zero_le _

/-- The filter keeps every bound that the sample power keeps. -/
theorem filter_le {f p m : Nat} (hf : f ≤ m) (hp : p ≤ m) : (15 * f + p) / 16 ≤ m := by omega

/-- R27: the filter stands still for the powers from its own value to 15 above it. -/
theorem filter_eq_self_iff (f p : Nat) : (15 * f + p) / 16 = f ↔ f ≤ p ∧ p ≤ f + 15 := by omega

/-! ### Who reads the filtered power -/

/-- R49: a bay's charging demand, less its keep demand, stands in one of the two charging tiers. -/
theorem State.urgentDemand_add_normalDemand (s : State) (b : Bay) :
    s.urgentDemand b + s.normalDemand b = s.chargingDemand b - s.keepDemand b := by
  unfold State.urgentDemand State.normalDemand
  split <;> simp

/-- R49: a TAPER bay demands its filtered power in W and 2 more, at most the profile's maximum power. -/
theorem State.chargingDemand_taper {s : State} {b : Bay} (h : (s.bay b).charge.state = .taper) :
    s.chargingDemand b = min ((s.bay b).filtered / 1000 + 2) (s.profile b).maxPower := by
  simp [State.chargingDemand, h]

/-- Settles O17: the conversion runs `takeSample`, whose one writer of the filtered power is `meter`; the bound and the
band are the filter's arithmetic. -/
theorem filteredPower : Obligations.FilteredPower := by
  refine ⟨fun s b p current code hs => ?_, filter_eq_self_iff, fun s b => ⟨rfl, fun htaper => ?_⟩⟩
  · have hstep := (s.writeCode p code).takeSample_filtered p b (5 * code.toNat) (2 * (current.toNat : Int) - 4096)
    rw [State.bay_writeCode] at hstep
    have hpower := samplePower_le code current
    refine ⟨_, hs.exec_conversionEnd code, fun hon => ?_, fun hoff => ?_, hpower, fun hbound => ?_⟩
    · rw [hstep, if_pos hon]; rfl
    · rw [hstep, hoff]; rfl
    · rw [hstep]
      split
      · exact filter_le hbound hpower
      · exact Nat.zero_le _
  · rw [State.urgentDemand_add_normalDemand, State.chargingDemand_taper htaper]

end Sys2Proof.Machine
end

section
/-! The own share of a budget (R88 to R90): sums over the LIVE entries of the peer table, what the keep tier grants and
passes on, what a tier's water-fill over the LIVE entries is, and that the three tiers together stay within the
available power. -/

namespace Sys2Proof.Machine

/-! ### Sums over the LIVE entries -/

theorem sumPeers_add (f g : Fin 15 → Nat) : sumPeers (fun i => f i + g i) = sumPeers f + sumPeers g :=
  List.sum_map_add

theorem sumPeers_mul_right (f : Fin 15 → Nat) (c : Nat) : sumPeers (fun i => f i * c) = sumPeers f * c :=
  List.sum_map_mul_right ..

theorem sumPeers_mono {f g : Fin 15 → Nat} (h : ∀ i, f i ≤ g i) : sumPeers f ≤ sumPeers g :=
  List.sum_le_sum fun i _ => h i

theorem State.liveSum_add (s : State) (f g : Peer → Nat) :
    s.liveSum (fun p => f p + g p) = s.liveSum f + s.liveSum g := by
  simp only [State.liveSum, ← sumPeers_add]
  congr 1 with i
  split <;> rfl

theorem State.liveSum_mul_right (s : State) (f : Peer → Nat) (c : Nat) :
    s.liveSum (fun p => f p * c) = s.liveSum f * c := by
  simp only [State.liveSum, ← sumPeers_mul_right, ite_mul, Nat.zero_mul]

theorem State.liveSum_mono (s : State) {f g : Peer → Nat} (h : ∀ p, f p ≤ g p) : s.liveSum f ≤ s.liveSum g := by
  refine sumPeers_mono fun i => ?_
  split
  · exact h _
  · exact Nat.le_refl 0

@[simp] theorem State.liveSum_zero (s : State) : s.liveSum (fun _ => 0) = 0 := by
  simpa using s.liveSum_mul_right (fun _ => 0) 0

/-- A power shared out in proportion, each part rounded down, is not exceeded. -/
theorem State.liveSum_proportion_le (s : State) (f : Peer → Nat) (a : Nat) (h : 0 < s.liveSum f) :
    s.liveSum (fun p => f p * a / s.liveSum f) ≤ a := by
  refine Nat.le_of_mul_le_mul_right ?_ h
  calc s.liveSum (fun p => f p * a / s.liveSum f) * s.liveSum f
    _ = s.liveSum (fun p => f p * a / s.liveSum f * s.liveSum f) := (s.liveSum_mul_right ..).symm
    _ ≤ s.liveSum (fun p => f p * a) := s.liveSum_mono fun _ => Nat.div_mul_le_self ..
    _ = s.liveSum f * a := s.liveSum_mul_right ..
    _ = a * s.liveSum f := Nat.mul_comm ..

/-! ### The keep tier -/

/-- R88: what the keep tier passes on, A1. -/
def keepRest (sumK a : Nat) : Nat := if sumK ≤ a then a - sumK else 0

theorem keepGrant_le (sumK a k : Nat) : keepGrant sumK a k ≤ k := by
  unfold keepGrant
  split
  · exact Nat.le_refl k
  next hshort =>
    have hless : a ≤ sumK := by omega
    exact Nat.div_le_of_le_mul (by rw [Nat.mul_comm]; exact Nat.mul_le_mul_right k hless)

/-- R88: the keep grants and what the keep tier passes on are within the available power. -/
theorem State.liveSum_keepGrant (s : State) (a : Nat) :
    s.liveSum (fun p => keepGrant (s.liveSum (·.keep)) a p.keep) + keepRest (s.liveSum (·.keep)) a ≤ a := by
  unfold keepGrant keepRest
  by_cases hfits : s.liveSum (·.keep) ≤ a
  · simp only [hfits, ↓reduceIte]
    exact Nat.le_of_eq (Nat.add_sub_cancel' hfits)
  · simp only [hfits, ↓reduceIte, Nat.add_zero]
    exact s.liveSum_proportion_le (·.keep) a (by omega)

/-! ### A demand tier -/

/-- R89: what the LIVE entries take in a demand tier at a level per bay. -/
def State.tierTotal (s : State) (demand count : Peer → Nat) (l : Nat) : Nat :=
  s.liveSum fun p => tierAmount (demand p) (count p) l

/-- R89: the level of a demand tier's water-fill from a power. -/
def State.tierFill (s : State) (demand count : Peer → Nat) (a : Nat) : Nat :=
  waterLevel (s.tierTotal demand count) a 1023

theorem tierAmount_le (demand count l : Nat) : tierAmount demand count l ≤ demand := Nat.min_le_left ..

theorem State.tierTotal_zero (s : State) (demand count : Peer → Nat) : s.tierTotal demand count 0 = 0 := by
  simp [State.tierTotal, tierAmount]

theorem State.tierFill_le (s : State) (demand count : Peer → Nat) (a : Nat) : s.tierFill demand count a ≤ 1023 :=
  waterLevel_le ..

/-- R89: at the level found the tier's amounts are within the power, since they are at level 0. -/
theorem State.tierTotal_tierFill_le (s : State) (demand count : Peer → Nat) (a : Nat) :
    s.tierTotal demand count (s.tierFill demand count a) ≤ a := by
  have hzero : s.tierTotal demand count 0 ≤ a := by rw [s.tierTotal_zero]; exact Nat.zero_le a
  exact waterLevel_fits hzero 1023

/-- R89: no level above the one found is within the power. -/
theorem State.le_tierFill {s : State} {demand count : Peer → Nat} {a l : Nat} (hl : l ≤ 1023)
    (h : s.tierTotal demand count l ≤ a) : l ≤ s.tierFill demand count a :=
  le_waterLevel hl h

/-! ### The three tiers -/

/-- R88: the power the urgent tier is filled from, A1. -/
def State.urgentPower (s : State) (budget : Nat) : Nat := keepRest (s.liveSum (·.keep)) (s.availablePower budget)

/-- R89: the level of the urgent tier. -/
def State.urgentLevel (s : State) (budget : Nat) : Nat := s.tierFill (·.urgent) (·.urgentN) (s.urgentPower budget)

/-- R89: the power the normal tier is filled from, A2. -/
def State.normalPower (s : State) (budget : Nat) : Nat :=
  s.urgentPower budget - s.tierTotal (·.urgent) (·.urgentN) (s.urgentLevel budget)

/-- R90: the level of the normal tier. -/
def State.normalLevel (s : State) (budget : Nat) : Nat := s.tierFill (·.normal) (·.normalN) (s.normalPower budget)

/-- R88 to R90: what an entry of the peer table is granted in the three tiers together. -/
def State.grant (s : State) (budget : Nat) (p : Peer) : Nat :=
  keepGrant (s.liveSum (·.keep)) (s.availablePower budget) p.keep +
    tierAmount p.urgent p.urgentN (s.urgentLevel budget) + tierAmount p.normal p.normalN (s.normalLevel budget)

/-- R90: the own share is what the own entry is granted. -/
theorem State.ownShare_eq_grant (s : State) (budget : Nat) : s.ownShare budget = s.grant budget (s.peer s.ownIndex) := rfl

/-- R88 to R90: no entry is granted more than its demands. -/
theorem State.grant_le_demands (s : State) (budget : Nat) (p : Peer) :
    s.grant budget p ≤ p.keep + p.urgent + p.normal :=
  Nat.add_le_add (Nat.add_le_add (keepGrant_le ..) (tierAmount_le ..)) (tierAmount_le ..)

/-- R88 to R90: the grants of the LIVE entries, tier by tier. -/
theorem State.liveSum_grant (s : State) (budget : Nat) : s.liveSum (s.grant budget) =
    s.liveSum (fun p => keepGrant (s.liveSum (·.keep)) (s.availablePower budget) p.keep) +
      s.tierTotal (·.urgent) (·.urgentN) (s.urgentLevel budget) +
      s.tierTotal (·.normal) (·.normalN) (s.normalLevel budget) := by
  unfold State.grant State.tierTotal
  rw [s.liveSum_add, s.liveSum_add]

/-- R88 to R90: the grants of the LIVE entries are within the available power, as each tier is filled within what the one
before it leaves. -/
theorem State.liveSum_grant_le (s : State) (budget : Nat) : s.liveSum (s.grant budget) ≤ s.availablePower budget := by
  rw [s.liveSum_grant]
  have hkeep := s.liveSum_keepGrant (s.availablePower budget)
  have hurgent := s.tierTotal_tierFill_le (·.urgent) (·.urgentN) (s.urgentPower budget)
  have hnormal := s.tierTotal_tierFill_le (·.normal) (·.normalN) (s.normalPower budget)
  rw [← State.urgentPower] at hkeep
  rw [← State.urgentLevel] at hurgent
  rw [← State.normalLevel, State.normalPower] at hnormal
  omega

/-- Settles O27: the levels are those of the two water-fills, and each tier stays within what the one before it leaves. -/
theorem shareFillsTiers : Obligations.ShareFillsTiers := by
  intro s budget _
  exact ⟨s.urgentLevel budget, s.tierFill_le .., s.normalLevel budget, s.tierFill_le ..,
    s.tierTotal_tierFill_le (·.urgent) (·.urgentN) (s.urgentPower budget), fun _ => State.le_tierFill,
    s.tierTotal_tierFill_le (·.normal) (·.normalN) (s.normalPower budget), fun _ => State.le_tierFill,
    s.ownShare_eq_grant budget, s.liveSum_grant_le budget, s.grant_le_demands budget (s.peer s.ownIndex)⟩

end Sys2Proof.Machine
end

section
/-! A presence event at the lock (R10, R117): when a bay's events are handed on, what of a presence change the custody
unit alone writes, and what it writes with the door closed and with it open. -/

namespace Sys2Proof.Machine

/-! ### A presence change that is handed on -/

theorem State.handsOn_iff {s : State} {b : Bay} : s.handsOn b = true ↔ s.HandsOn b := by
  unfold State.handsOn State.HandsOn State.awake
  cases s.startup.phase <;> simp

theorem State.HandsOn.phase_ne_resetting {s : State} {b : Bay} (h : s.HandsOn b) : s.startup.phase ≠ .resetting := by
  obtain hconfig | ⟨hrun, -⟩ := h
  · simp [hconfig]
  · simp [hrun]

/-- R8: a bay whose presence change has been taken. -/
def BayRecord.flipPresence (r : BayRecord) : BayRecord := { r with presence := r.presence.flip }

theorem exec_presenceChange_eq (b : Bay) (s : State) : exec (.presenceChange b) s = execPresenceChange b s := rfl

/-- R10: a presence change that is due and handed on turns the debounced value over and is a presence event. -/
theorem State.HandsOn.exec_presenceChange {s : State} {b : Bay} (h : s.HandsOn b) (hdue : (s.bay b).presence.count = 50) :
    exec (.presenceChange b) s =
      .next ((s.modBay b BayRecord.flipPresence).presenceEvent b (!(s.bay b).presence.value)) := by
  have hvalue : ((s.modBay b BayRecord.flipPresence).bay b).presence.value = !(s.bay b).presence.value := by
    rw [State.bay_modBay_self]
    rfl
  have hchanged : (s.bay b).presence.changed presenceTime = true := by
    simp [Debouncer.changed, presenceTime, hdue]
  rw [exec_presenceChange_eq, ← hvalue]
  simp only [execPresenceChange, State.when, bne_iff_ne.2 h.phase_ne_resetting, hchanged, State.handsOn_iff.2 h,
    Bool.and_self, ↓reduceIte]
  rfl

/-! ### What the custody unit owns, left alone -/

/-- R12, R107: a bay's lock and latch and the custody unit's own items stand in `t` as in `s`. -/
structure State.KeepsLock (b : Bay) (s t : State) : Prop where
  lock : (t.bay b).lock = (s.bay b).lock
  latch : (t.bay b).out.latch = (s.bay b).out.latch
  custody : t.custody = s.custody

namespace State.KeepsLock

theorem refl (b : Bay) (s : State) : KeepsLock b s s := ⟨rfl, rfl, rfl⟩

theorem trans {b : Bay} {s t u : State} (h : KeepsLock b s t) (k : KeepsLock b t u) : KeepsLock b s u :=
  ⟨k.lock.trans h.lock, k.latch.trans h.latch, k.custody.trans h.custody⟩

/-- The bid unit and the lane unit write nothing of the lock's. -/
theorem of_unitsOnly {s t : State} (h : s.UnitsOnly t) (b : Bay) : KeepsLock b s t := by
  obtain ⟨hbay, -, ht⟩ := h
  exact ⟨by rw [hbay b], by rw [hbay b], by rw [ht]⟩

theorem modBay (s : State) (b : Bay) {f : BayRecord → BayRecord} (hlock : ∀ r, (f r).lock = r.lock)
    (hlatch : ∀ r, (f r).out.latch = r.out.latch) : KeepsLock b s (s.modBay b f) :=
  ⟨by simp [hlock], by simp [hlatch], rfl⟩

/-- R15: clearing departed tags writes nothing of the lock's. -/
theorem clearDeparted (s : State) (b c : Bay) (tag : Option Tag) : KeepsLock b s (s.clearDeparted c tag) := by
  unfold State.clearDeparted
  refine ⟨?_, ?_, by simp⟩
  all_goals
    rw [State.bay_mapBays]
    split <;> rfl

end State.KeepsLock

@[simp] theorem BayRecord.dock_lock (r : BayRecord) (check : Bool) : (r.dock check).lock = r.lock := by
  rw [BayRecord.dock, BayRecord.toDetect_eq]
  split <;> rfl

@[simp] theorem BayRecord.dock_latch (r : BayRecord) (check : Bool) : (r.dock check).out.latch = r.out.latch := by
  rw [BayRecord.dock, BayRecord.toDetect_eq]
  split <;> rfl

@[simp] theorem BayRecord.remove_lock (r : BayRecord) : r.remove.lock = r.lock := by rw [BayRecord.remove_eq]

@[simp] theorem BayRecord.remove_latch (r : BayRecord) : r.remove.out.latch = r.out.latch := by
  rw [BayRecord.remove_eq]
  rfl

/-- R10, R117: of a presence event's readers only the custody unit writes the lock and the release log; the docking, the
removal and the units told afterwards leave them as it wrote them. -/
theorem State.presenceEvent_keepsLock (s : State) (b : Bay) (present : Bool) :
    KeepsLock b (s.presenceAtLock b present (s.bay b).charge.tag (s.bay b).charge.level) (s.presenceEvent b present) := by
  unfold State.presenceEvent
  refine .trans ?_ (.of_unitsOnly (State.unitsOnly_afterBay _ b) b)
  split
  · exact .modBay _ b (fun r => r.dock_lock _) (fun r => r.dock_latch _)
  · split
    · exact .refl b _
    · exact (KeepsLock.modBay _ b BayRecord.remove_lock BayRecord.remove_latch).trans (.clearDeparted _ b b _)

/-! ### What the lock makes of a presence event -/

theorem LockState.doorOpen_eq_true_iff {l : LockState} : l.doorOpen = true ↔ l = .opened ∨ l = .ajar ∨ l = .forced := by
  cases l <;> simp [LockState.doorOpen]

theorem LockState.doorOpen_eq_false_iff {l : LockState} : l.doorOpen = false ↔ l = .secured ∨ l = .granted := by
  cases l <;> simp [LockState.doorOpen]

@[simp] theorem State.bay_addRecord (s : State) (n : Nat) (kind : RecordKind) (m : Option Node) (q : Option ReqNo)
    (tag : Option Tag) (level : Option Nat) (b : Bay) : (s.addRecord n kind m q tag level).bay b = s.bay b := by
  rw [State.addRecord_custodyOnly]
  rfl

/-- The record added and the log after it do not read the bay records. -/
theorem State.addRecord_modBay_custody (s : State) (b : Bay) (f : BayRecord → BayRecord) (n : Nat) (kind : RecordKind)
    (m : Option Node) (q : Option ReqNo) (tag : Option Tag) (level : Option Nat) :
    ((s.modBay b f).addRecord n kind m q tag level).custody = (s.addRecord n kind m q tag level).custody := by
  simp only [State.addRecord, apply_ite State.custody]
  rfl

/-- R117: with the door closed a presence event is an ANOMALY record, of the tablet where it is a removal. -/
theorem State.presenceAtLock_closed {s : State} {b : Bay} (h : (s.bay b).lock.state.doorOpen = false) (present : Bool)
    (tag : Option Tag) (level : Option Nat) :
    s.presenceAtLock b present tag level =
      s.addRecord (bayNumber b) .anomaly none none (if present then none else tag) (if present then none else level) := by
  cases present <;> simp [State.presenceAtLock, h]

/-- R117: with the door open a docking is not noted. -/
theorem State.presenceAtLock_open_docking {s : State} {b : Bay} (h : (s.bay b).lock.state.doorOpen = true)
    (tag : Option Tag) (level : Option Nat) : s.presenceAtLock b true tag level = s := by
  simp [State.presenceAtLock, h]

/-- R117: with the door open a removal writes the removal note. -/
theorem State.presenceAtLock_open_removal {s : State} {b : Bay} (h : (s.bay b).lock.state.doorOpen = true)
    (tag : Option Tag) (level : Option Nat) :
    s.presenceAtLock b false tag level =
      s.modBay b fun r => { r with lock := { r.lock with note := some { tag := tag, level := level } } } := by
  simp [State.presenceAtLock, h]

/-- Settles O9, by the door as the lock accounts for it: what the custody unit writes at the event stands to its end. -/
theorem presenceAtLock : Obligations.PresenceAtLock := by
  intro s b hdue hhands r removed
  let u := s.modBay b BayRecord.flipPresence
  have hu : u.bay b = r.flipPresence := s.bay_modBay_self b _
  obtain ⟨hlock, hlatch, hcustody⟩ := u.presenceEvent_keepsLock b (!removed)
  refine ⟨u.presenceEvent b (!removed), hhands.exec_presenceChange hdue, fun hstate => ?closed, fun hstate => ?opened⟩
  case closed =>
    have hdoor : (u.bay b).lock.state.doorOpen = false := by
      rw [hu]
      exact LockState.doorOpen_eq_false_iff.2 hstate
    rw [hlock, hlatch, hcustody, State.presenceAtLock_closed hdoor, State.bay_addRecord, hu,
      State.addRecord_modBay_custody]
    cases removed <;> exact ⟨rfl, rfl, rfl⟩
  case opened =>
    have hdoor : (u.bay b).lock.state.doorOpen = true := by
      rw [hu]
      exact LockState.doorOpen_eq_true_iff.2 hstate
    rw [hlock, hcustody]
    cases removed with
    | false =>
      rw [Bool.not_false, State.presenceAtLock_open_docking hdoor, hu]
      exact ⟨rfl, rfl⟩
    | true =>
      rw [Bool.not_true, State.presenceAtLock_open_removal hdoor, u.bay_modBay_self, hu]
      exact ⟨rfl, rfl⟩

end Sys2Proof.Machine
end

section
/-! The bay a bid offers (R137, R138, R140): which bays are eligible, what a score is, which bay of a list the choice
takes, and the offers for a DISPENSE without a tag and for a RETURN. -/

namespace Sys2Proof.Machine

/-! ### Eligibility -/

@[simp] theorem State.free_iff {s : State} {b : Bay} :
    s.free b = true ↔ (s.bay b).lock.state = .secured ∧ (s.bay b).reservation = none := by
  simp [State.free]

theorem BayRecord.hasLiveJob_eq_false_iff {r : BayRecord} :
    r.hasLiveJob = false ↔ ∀ j, r.slot = some j → j.state = .ended := by
  unfold BayRecord.hasLiveJob Job.live
  cases r.slot <;> simp

theorem ChargeState.dispensable_iff {c : ChargeState} :
    c.dispensable = true ↔ c = .softstart ∨ c = .bulk ∨ c = .taper ∨ c = .maintain ∨ c = .paused := by
  cases c <;> simp [ChargeState.dispensable]

theorem BayRecord.levelServes_iff {r : BayRecord} {minLevel : Nat} : r.levelServes minLevel = true ↔
    r.charge.state = .maintain ∨ ∃ l, r.charge.level = some l ∧ minLevel * 10 ≤ l := by
  unfold BayRecord.levelServes
  cases r.charge.level <;> simp

/-- R137: the bays the bid unit finds eligible for a DISPENSE without a tag. -/
theorem State.eligibleDispense_iff {s : State} {minLevel : Nat} {b : Bay} :
    s.eligibleDispense minLevel b = true ↔ s.MayDispense minLevel b := by
  simp only [State.eligibleDispense, BayRecord.servesDispense, State.MayDispense, Bool.and_eq_true, Bool.not_eq_true',
    State.free_iff, BayRecord.hasLiveJob_eq_false_iff, ChargeState.dispensable_iff, BayRecord.levelServes_iff]
  tauto

/-- R140: the bays the bid unit finds eligible for a RETURN. -/
theorem State.eligibleReturn_iff {s : State} {b : Bay} : s.eligibleReturn b = true ↔ s.MayReturn b := by
  simp only [State.eligibleReturn, BayRecord.servesReturn, State.MayReturn, Bool.and_eq_true, beq_iff_eq, State.free_iff]
  tauto

theorem mem_filter_allBays {p : Bay → Bool} {b : Bay} : b ∈ allBays.filter p ↔ p b = true := by
  simp [mem_allBays]

/-- R137: a bay eligible for a DISPENSE without a tag has a level, if MAINTAIN has one. -/
theorem State.MayDispense.level_ne_none {s : State} {minLevel : Nat} {b : Bay} (h : s.MayDispense minLevel b)
    (hmaintain : (s.bay b).charge.state = .maintain → (s.bay b).charge.level ≠ none) :
    (s.bay b).charge.level ≠ none := by
  obtain ⟨-, -, -, -, -, hstate | ⟨l, hlevel, -⟩, -⟩ := h
  · exact hmaintain hstate
  · simp [hlevel]

/-! ### Scores -/

theorem clampScore_eq (v : Int) : (clampScore v : Int) = max 1 (min 254 v) := by
  unfold clampScore
  omega

/-- R138: a bay that has a level has one score. The statement's subtraction, of natural numbers, stops at 0, which the
clamp to 1 and above makes the same. -/
theorem BayRecord.score_iff {r : BayRecord} (h : r.charge.level ≠ none) {score : Nat} :
    r.Score score ↔ score = r.dispenseScore := by
  obtain ⟨l, hl⟩ := Option.ne_none_iff_exists'.1 h
  rw [← Int.natCast_inj, BayRecord.dispenseScore, clampScore_eq]
  simp only [BayRecord.Score, hl, Option.some.injEq, exists_eq_left', Option.getD_some, beq_iff_eq]
  split <;> split <;> omega

/-- R138: a level of 100.0 % in MAINTAIN with the tablet provisioned and no fault scores 245. -/
theorem BayRecord.dispenseScore_le {r : BayRecord} (h : ∀ l, r.charge.level = some l → l ≤ 1000) :
    r.dispenseScore ≤ 245 := by
  have hlevel : r.charge.level.getD 0 ≤ 1000 := by
    cases hl : r.charge.level with
    | none => exact Nat.zero_le _
    | some l => exact h l hl
  unfold BayRecord.dispenseScore clampScore
  split <;> split <;> omega

/-! ### The choice of a bay -/

theorem bestBay_eq_none_iff {f : Bay → Int} {l : List Bay} : bestBay f l = none ↔ l = [] := by
  cases l with
  | nil => simp [bestBay]
  | cons b bs =>
    simp only [bestBay]
    repeat' split
    all_goals simp

/-- R138, R140: of bays in ascending order the choice takes one of the highest measure, the lowest bay of those. -/
theorem bestBay_highest {f : Bay → Int} {l : List Bay} (hl : l.Pairwise (· < ·)) {b : Bay} (h : bestBay f l = some b) :
    b ∈ l ∧ ∀ c ∈ l, f c < f b ∨ f c = f b ∧ b ≤ c := by
  induction l generalizing b with
  | nil => simp [bestBay] at h
  | cons a as ih =>
    obtain ⟨hfirst, hrest⟩ := List.pairwise_cons.1 hl
    cases hbest : bestBay f as with
    | none =>
      obtain rfl : as = [] := bestBay_eq_none_iff.1 hbest
      simp_all [bestBay]
    | some d =>
      obtain ⟨hmem, hd⟩ := ih hrest hbest
      simp only [bestBay, hbest] at h
      split at h
      next hge =>
        obtain rfl : a = b := Option.some.inj h
        refine ⟨List.mem_cons_self, fun c hc => ?_⟩
        obtain rfl | hc := List.mem_cons.1 hc
        · exact .inr ⟨rfl, le_refl c⟩
        · have hle : f c ≤ f a := (hd c hc).elim (fun hlt => by omega) fun ⟨heq, _⟩ => by omega
          exact hle.lt_or_eq.imp_right fun heq => ⟨heq, (hfirst c hc).le⟩
      next hlt =>
        obtain rfl : d = b := Option.some.inj h
        refine ⟨List.mem_cons_of_mem a hmem, fun c hc => ?_⟩
        obtain rfl | hc := List.mem_cons.1 hc
        · exact .inl (by omega)
        · exact hd c hc

theorem sorted_allBays : allBays.Pairwise (· < ·) := by decide

/-- The choice among the bays that meet a condition finds a bay unless none meets it. -/
theorem bestBay_filter_eq_none_iff {f : Bay → Int} {p : Bay → Bool} :
    bestBay f (allBays.filter p) = none ↔ ∀ b, ¬ p b = true := by
  rw [bestBay_eq_none_iff, List.filter_eq_nil_iff]
  exact ⟨fun h b => h b (mem_allBays b), fun h b _ => h b⟩

/-- The choice among the bays that meet a condition. -/
theorem bestBay_filter_highest {f : Bay → Int} {p : Bay → Bool} {b : Bay} (h : bestBay f (allBays.filter p) = some b) :
    p b = true ∧ ∀ c, p c = true → f c < f b ∨ f c = f b ∧ b ≤ c := by
  obtain ⟨hmem, hhighest⟩ := bestBay_highest (sorted_allBays.filter p) h
  exact ⟨mem_filter_allBays.1 hmem, fun c hc => hhighest c (mem_filter_allBays.2 hc)⟩

/-! ### The offer for a DISPENSE without a tag -/

theorem State.offerDispense_eq_none_iff {s : State} {minLevel : Nat} :
    s.offerDispense minLevel = none ↔ ∀ b, ¬ s.MayDispense minLevel b := by
  simp only [State.offerDispense, Option.map_eq_none_iff, bestBay_filter_eq_none_iff, State.eligibleDispense_iff]

/-- R138: the bay offered for a DISPENSE without a tag is an eligible one of the highest score, the lowest of those. -/
theorem State.offerDispense_highest {s : State} {minLevel score : Nat} {b : Bay}
    (h : s.offerDispense minLevel = some (b, score)) :
    s.MayDispense minLevel b ∧ score = (s.bay b).dispenseScore ∧
      ∀ c, s.MayDispense minLevel c → (s.bay c).dispenseScore < score ∨ (s.bay c).dispenseScore = score ∧ b ≤ c := by
  obtain ⟨b', hbest, hpair⟩ := Option.map_eq_some_iff.1 h
  obtain ⟨rfl, rfl⟩ := Prod.mk.inj hpair
  obtain ⟨heligible, hhighest⟩ := bestBay_filter_highest hbest
  refine ⟨State.eligibleDispense_iff.1 heligible, rfl, fun c hc => ?_⟩
  exact_mod_cast hhighest c (State.eligibleDispense_iff.2 hc)

/-! ### The offer for a RETURN -/

/-- R140: whether a RETURN's tag is a bay's departed tag. -/
def State.returnsTo (s : State) (tag : Option Tag) (b : Bay) : Bool := tag.isSome && (s.bay b).charge.departed == tag

theorem State.returnsTo_iff {s : State} {tag : Option Tag} {b : Bay} :
    s.returnsTo tag b = true ↔ ∃ v, tag = some v ∧ (s.bay b).charge.departed = some v := by
  cases tag <;> simp [State.returnsTo]

/-- R140: a RETURN whose tag an eligible bay has for its departed tag is offered the bay found, with score 255. -/
theorem State.offerReturn_of_tag {s : State} {tag : Option Tag} {b : Bay}
    (h : (allBays.filter s.eligibleReturn).find? (s.returnsTo tag) = some b) : s.offerReturn tag = some (b, 255) := by
  unfold State.returnsTo at h
  simp [State.offerReturn, h]

/-- R140: any other RETURN is offered an eligible bay of the lowest fault score. -/
theorem State.offerReturn_of_no_tag {s : State} {tag : Option Tag}
    (h : (allBays.filter s.eligibleReturn).find? (s.returnsTo tag) = none) :
    s.offerReturn tag = (bestBay (fun b => -((s.bay b).prot.score : Int)) (allBays.filter s.eligibleReturn)).map fun b =>
      (b, clampScore (64 + 16 * (countBays s.eligibleReturn : Nat) - 4 * ((s.bay b).prot.score : Nat))) := by
  unfold State.returnsTo at h
  simp [State.offerReturn, h, countBays]

/-- R140: no eligible bay has the tag exactly where the search finds none. -/
theorem State.find_returnsTo_eq_none_iff {s : State} {tag : Option Tag} :
    (allBays.filter s.eligibleReturn).find? (s.returnsTo tag) = none ↔
      ∀ c v, tag = some v → s.MayReturn c → (s.bay c).charge.departed ≠ some v := by
  simp only [List.find?_eq_none, mem_filter_allBays, State.eligibleReturn_iff, State.returnsTo_iff]
  exact ⟨fun h c v htag hc hdeparted => h c hc ⟨v, htag, hdeparted⟩,
    fun h c hc ⟨v, htag, hdeparted⟩ => h c v htag hc hdeparted⟩

/-- R140: the bay the search finds is eligible and has the tag. -/
theorem State.find_returnsTo_some {s : State} {tag : Option Tag} {b : Bay}
    (h : (allBays.filter s.eligibleReturn).find? (s.returnsTo tag) = some b) :
    s.MayReturn b ∧ ∃ v, tag = some v ∧ (s.bay b).charge.departed = some v :=
  ⟨State.eligibleReturn_iff.1 (mem_filter_allBays.1 (List.mem_of_find?_eq_some h)),
    State.returnsTo_iff.1 (List.find?_some h)⟩

theorem State.offerReturn_eq_none_iff {s : State} {tag : Option Tag} :
    s.offerReturn tag = none ↔ ∀ b, ¬ s.MayReturn b := by
  cases hfind : (allBays.filter s.eligibleReturn).find? (s.returnsTo tag) with
  | none =>
    rw [State.offerReturn_of_no_tag hfind]
    simp only [Option.map_eq_none_iff, bestBay_filter_eq_none_iff, State.eligibleReturn_iff]
  | some b =>
    obtain ⟨heligible, -⟩ := State.find_returnsTo_some hfind
    simpa [State.offerReturn_of_tag hfind] using ⟨b, heligible⟩

/-- Settles O34: the choice takes the highest score, or the highest negated fault score, at the lowest bay number; a
RETURN's offer goes by whether the search for its tag finds a bay. -/
theorem offersChooseBay : Obligations.OffersChooseBay := by
  refine ⟨fun s minLevel hmaintain => ⟨State.offerDispense_eq_none_iff, fun b score hoffer => ?dispense⟩,
    fun s tag => ⟨State.offerReturn_eq_none_iff, fun b score hoffer => ?returns⟩⟩
  case dispense =>
    have score_iff {c : Bay} (hc : s.MayDispense minLevel c) {n : Nat} :=
      BayRecord.score_iff (hc.level_ne_none (hmaintain c)) (score := n)
    obtain ⟨hmay, rfl, hhighest⟩ := State.offerDispense_highest hoffer
    refine ⟨hmay, (score_iff hmay).2 rfl, fun c other hc hother => ?_, BayRecord.dispenseScore_le⟩
    obtain rfl := (score_iff hc).1 hother
    exact hhighest c hc
  case returns =>
    cases hfind : (allBays.filter s.eligibleReturn).find? (s.returnsTo tag) with
    | some d =>
      rw [State.offerReturn_of_tag hfind] at hoffer
      obtain ⟨rfl, rfl⟩ := Prod.mk.inj (Option.some.inj hoffer)
      obtain ⟨hmay, v, rfl, hdeparted⟩ := State.find_returnsTo_some hfind
      exact ⟨hmay, fun _ => ⟨rfl, hdeparted⟩, fun hnone => absurd hdeparted (hnone d v rfl hmay)⟩
    | none =>
      have hnone := State.find_returnsTo_eq_none_iff.1 hfind
      rw [State.offerReturn_of_no_tag hfind] at hoffer
      obtain ⟨d, hbest, hpair⟩ := Option.map_eq_some_iff.1 hoffer
      obtain ⟨rfl, rfl⟩ := Prod.mk.inj hpair
      obtain ⟨heligible, hhighest⟩ := bestBay_filter_highest hbest
      refine ⟨State.eligibleReturn_iff.1 heligible,
        fun ⟨c, v, htag, hc, hdeparted⟩ => absurd hdeparted (hnone c v htag hc),
        fun _ => ⟨clampScore_eq _, fun c => State.eligibleReturn_iff, fun c hc => ?_⟩⟩
      exact (hhighest c (State.eligibleReturn_iff.2 hc)).imp (fun hlt => by simpa using hlt)
        (And.imp_left fun heq => by simpa using heq.symm)

end Sys2Proof.Machine
end
